-- ==== Sys2Proof/Word.lean ====
section
/-! DEFINITION. The two word types of XMF: the byte and the 16-bit word (00_scope.md R8, R9). -/

namespace Sys2Proof

/-- A `u8` of the spec: 8 bits, unsigned, bit 0 least significant (00_scope.md R8, R9). -/
abbrev Byte := BitVec 8

/-- A `u16` of the spec: 16 bits, unsigned (00_scope.md R8, R9). A command word is one (30_encoding.md R70). -/
abbrev Word := BitVec 16

end Sys2Proof
end

