-- ==== Sys2Proof/Syntax.lean ====
section
/-! DEFINITION. The commands of XMF as syntax: one constructor per row of spec/opcode_table.json (30_encoding.md R72).
Every constructor carries its operand byte IMM, also where the machine ignores it (R74; log 13). -/

namespace Sys2Proof

/-- The operand kinds of 30_encoding.md R71. -/
inductive OperandKind where
  | data      -- `d`
  | sequence  -- `n`
  | index     -- `i`
  | mask      -- `m`
  | ignored   -- `x`
deriving DecidableEq, Repr

/-- The 18 commands (30_encoding.md R72). -/
inductive Instr where
  | nop (x : Byte)
  | crcClr (x : Byte)
  | crcByte (d : Byte)
  | crcLdh (d : Byte)
  | crcLdl (d : Byte)
  | payClr (x : Byte)
  | payPut (d : Byte)
  | seqSet (n : Byte)
  | seqAdv (x : Byte)
  | build (x : Byte)
  | send (x : Byte)
  | rdCrc (x : Byte)
  | rdStat (x : Byte)
  | rdSeq (x : Byte)
  | rdFill (x : Byte)
  | rdPkt (i : Byte)
  | errClr (m : Byte)
  | srst (x : Byte)
deriving DecidableEq, Repr

/-- The operand byte of a command. -/
def Instr.imm : Instr → Byte
  | .nop x => x
  | .crcClr x => x
  | .crcByte d => d
  | .crcLdh d => d
  | .crcLdl d => d
  | .payClr x => x
  | .payPut d => d
  | .seqSet n => n
  | .seqAdv x => x
  | .build x => x
  | .send x => x
  | .rdCrc x => x
  | .rdStat x => x
  | .rdSeq x => x
  | .rdFill x => x
  | .rdPkt i => i
  | .errClr m => m
  | .srst x => x

/-- The operand kind of a command (30_encoding.md R71, R72). -/
def Instr.kind : Instr → OperandKind
  | .nop _ => .ignored
  | .crcClr _ => .ignored
  | .crcByte _ => .data
  | .crcLdh _ => .data
  | .crcLdl _ => .data
  | .payClr _ => .ignored
  | .payPut _ => .data
  | .seqSet _ => .sequence
  | .seqAdv _ => .ignored
  | .build _ => .ignored
  | .send _ => .ignored
  | .rdCrc _ => .ignored
  | .rdStat _ => .ignored
  | .rdSeq _ => .ignored
  | .rdFill _ => .ignored
  | .rdPkt _ => .index
  | .errClr _ => .mask
  | .srst _ => .ignored

/-- The read commands (10_state.md R32, 42_control.md R150). -/
def Instr.isRead : Instr → Bool
  | .rdCrc _ => true
  | .rdStat _ => true
  | .rdSeq _ => true
  | .rdFill _ => true
  | .rdPkt _ => true
  | .nop _ => false
  | .crcClr _ => false
  | .crcByte _ => false
  | .crcLdh _ => false
  | .crcLdl _ => false
  | .payClr _ => false
  | .payPut _ => false
  | .seqSet _ => false
  | .seqAdv _ => false
  | .build _ => false
  | .send _ => false
  | .errClr _ => false
  | .srst _ => false

end Sys2Proof
end

