-- ==== Sys2Proof/Decode.lean ====
section
/-! DEFINITION. From command words to commands and back (30_encoding.md R70 to R74), and the big-endian stored form of
command words (R70). -/

namespace Sys2Proof

/-- Why a word, or a stored program, is not a command. -/
inductive DecodeError where
  /-- The OP field is one of the 238 undefined values (30_encoding.md R73). The machine then raises E_ILL and goes on. -/
  | undefinedOpcode (op : Byte)
  /-- A stored program ends inside a command word (R70: every command is 16 bits). -/
  | truncated
deriving DecidableEq, Repr

/-- The OP field, bits 15:8 (30_encoding.md R70). -/
def opField (w : Word) : Byte := w.extractLsb' 8 8

/-- The IMM field, bits 7:0 (30_encoding.md R70). -/
def immField (w : Word) : Byte := w.extractLsb' 0 8

/-- The decoder: the opcode map of 30_encoding.md R72; every other OP value is undefined (R73). -/
def decode (w : Word) : Except DecodeError Instr :=
  match opField w with
  | 0x00#8 => .ok (.nop (immField w))
  | 0x01#8 => .ok (.crcClr (immField w))
  | 0x02#8 => .ok (.crcByte (immField w))
  | 0x03#8 => .ok (.crcLdh (immField w))
  | 0x04#8 => .ok (.crcLdl (immField w))
  | 0x10#8 => .ok (.payClr (immField w))
  | 0x11#8 => .ok (.payPut (immField w))
  | 0x20#8 => .ok (.seqSet (immField w))
  | 0x21#8 => .ok (.seqAdv (immField w))
  | 0x30#8 => .ok (.build (immField w))
  | 0x31#8 => .ok (.send (immField w))
  | 0x40#8 => .ok (.rdCrc (immField w))
  | 0x41#8 => .ok (.rdStat (immField w))
  | 0x42#8 => .ok (.rdSeq (immField w))
  | 0x43#8 => .ok (.rdFill (immField w))
  | 0x44#8 => .ok (.rdPkt (immField w))
  | 0x50#8 => .ok (.errClr (immField w))
  | 0x5F#8 => .ok (.srst (immField w))
  | op => .error (.undefinedOpcode op)

/-- The opcode of a command (30_encoding.md R72). -/
def Instr.opcode : Instr → Byte
  | .nop _ => 0x00
  | .crcClr _ => 0x01
  | .crcByte _ => 0x02
  | .crcLdh _ => 0x03
  | .crcLdl _ => 0x04
  | .payClr _ => 0x10
  | .payPut _ => 0x11
  | .seqSet _ => 0x20
  | .seqAdv _ => 0x21
  | .build _ => 0x30
  | .send _ => 0x31
  | .rdCrc _ => 0x40
  | .rdStat _ => 0x41
  | .rdSeq _ => 0x42
  | .rdFill _ => 0x43
  | .rdPkt _ => 0x44
  | .errClr _ => 0x50
  | .srst _ => 0x5F

/-- The encoder: OP in bits 15:8, IMM in bits 7:0 (30_encoding.md R70, R72). -/
def encode (i : Instr) : Word := i.opcode ++ i.imm

/-- The stored form of a command word: big-endian, OP first, then IMM (30_encoding.md R70). -/
def storeWord (w : Word) : List Byte := [opField w, immField w]

/-- The stored form of a sequence of commands (30_encoding.md R70). -/
def storeProgram : List Instr → List Byte
  | [] => []
  | i :: rest => storeWord (encode i) ++ storeProgram rest

/-- The commands of a stored program, two bytes a word, OP first (30_encoding.md R70); the first word that is no
command, or an odd byte at the end, is reported (log 19). -/
def loadProgram : List Byte → Except DecodeError (List Instr)
  | [] => .ok []
  | [_] => .error .truncated
  | op :: imm :: rest =>
    match decode (op ++ imm), loadProgram rest with
    | .ok i, .ok is => .ok (i :: is)
    | .error e, _ => .error e
    | .ok _, .error e => .error e

/-- The instruction the decoder reads from the table's numbering of an instruction's bits: bit 0 is the least
significant bit of the one command word (30_encoding.md R70; log 15). -/
def decodeTableWord (nbits w : Nat) : Option Instr :=
  match decode (BitVec.ofNat 16 (w % 2 ^ nbits)) with
  | .ok i => some i
  | .error _ => none

end Sys2Proof
end

