-- ==== Sys2Proof/Config.lean ====
section
/-! DEFINITION. What is fixed for the machine: the parameters of 00_scope.md R6, the wire bytes of R7, and the free
values (constants without a body) for what the spec leaves unspecified. PAYLOAD_LEN = 128 and PKT_LEN = 133 of R6 stand
as numerals in the types of the buffers. -/

namespace Sys2Proof.Config

/-- CRC_INIT (00_scope.md R6): the CRC's initial value. -/
def crcInit : Word := 0x0000

/-- The polynomial of 40_crc.md R102, used by the bitwise form only (00_scope.md R6). -/
def crcPoly : Word := 0x1021

/-- SOH (00_scope.md R6, R7): the first byte of a packet. -/
def soh : Byte := 0x01

/-- PAD (00_scope.md R6, R7): the filler byte. -/
def pad : Byte := 0x1A

/-- EOT (00_scope.md R7): host only, XMF never emits it. -/
def eot : Byte := 0x04

/-- ACK (00_scope.md R7): host only. -/
def ack : Byte := 0x06

/-- NACK (00_scope.md R7): host only. -/
def nack : Byte := 0x15

/-- SYNC, the character 'C' (00_scope.md R7): host only. -/
def sync : Byte := 0x43

/-- The first sequence number (00_scope.md R6, 10_state.md R23). -/
def seqFirst : Byte := 0x01

/-- The last sequence number (00_scope.md R6, 41_framer.md R125). -/
def seqLast : Byte := 0xFF

/-- FREE VALUE (logs 4 and 5): what PAY holds where the spec leaves its contents unspecified (10_state.md R25,
41_framer.md R122, 70_reset_and_hazards.md R230), for the draw with the given number. It has no body, so nothing
can be proved of its bytes. -/
opaque unspecifiedPay : Nat → Vector Byte 128

/-- FREE VALUE (log 4): what PKT holds after a reset (10_state.md R26, 70_reset_and_hazards.md R230), for the draw
with the given number. It has no body, so nothing can be proved of its bytes. -/
opaque unspecifiedPkt : Nat → Vector Byte 133

end Sys2Proof.Config
end

