-- ==== Sys2Proof/Machine/State.lean ====
section
/-! DEFINITION. The state of XMF as plain data (10_state.md R20), the host's side of the interface, and the state
right after reset (70_reset_and_hazards.md R230). -/

namespace Sys2Proof.Machine

/-- The five error conditions (60_exceptions.md R201 to R205), each a sticky bit of STAT (10_state.md R28). -/
inductive ErrorKind where
  | ill    -- E_ILL, STAT bit 8
  | ovf    -- E_OVF, STAT bit 9
  | seq0   -- E_SEQ0, STAT bit 10
  | nopkt  -- E_NOPKT, STAT bit 11
  | range  -- E_RANGE, STAT bit 12
deriving DecidableEq, Repr

/-- What the host may do to XMF between commands (70_reset_and_hazards.md R231, R242). -/
inductive HostAction where
  /-- Present one 16-bit word on the command port. -/
  | command (w : Word)
  /-- Drive the reset input: `true` asserts it, `false` releases it. -/
  | reset (asserted : Bool)
  /-- Sample RDATA. -/
  | sample
  /-- Consume `n` bytes from the front of TXQ. -/
  | drain (n : Nat)
deriving DecidableEq, Repr

/-- The state. The first nine fields are the spec's elements (10_state.md R20, with PKT_VALID of R27 and the stored
bits of STAT of R30); `State.stat` computes STAT. -/
structure State where
  /-- CRC (R22). -/
  crc : Word
  /-- SEQ (R23): 1..255 in every reachable state. -/
  seq : Byte
  /-- FILL (R24): 0..128 in every reachable state, stored in 8 bits. -/
  fill : Byte
  /-- PAY (R25). -/
  pay : Vector Byte 128
  /-- PKT (R26). -/
  pkt : Vector Byte 133
  /-- PKT_VALID (R27). -/
  pktValid : Bool
  /-- STAT[12:8], the sticky error bits (R28, R30): bit k here is STAT bit 8 + k. -/
  errs : BitVec 5
  /-- RDATA (R32). -/
  rdata : Word
  /-- TXQ (R33): the bytes emitted and not yet consumed by the host, oldest first (log 9). -/
  txq : List Byte
  /-- The reset input (70_reset_and_hazards.md R231): `true` while asserted. -/
  resetLine : Bool
  /-- The host's actions still to come, next one first (R242; log 1). -/
  inputs : List HostAction
  /-- The bytes the host has consumed from TXQ, oldest first (R33; log 9). -/
  taken : List Byte
  /-- The RDATA values the host has sampled, oldest first (R32; log 10). -/
  sampled : List Word
  /-- The model's own field: how many free values have been drawn (log 6). -/
  draws : Nat
deriving DecidableEq, Repr

/-- Why a step faults: never. XMF has no trap and "never gets stuck, never hangs" (60_exceptions.md R200,
70_reset_and_hazards.md R241): an error condition is a sticky bit of STAT in a next state. Safe: no case is left out. -/
inductive Fault where
deriving DecidableEq, Repr

/-- Why a step refuses: never, once every arm has its meaning; XMF "never refuses a word" (R241). -/
inductive Refusal where
  /-- Raised by an arm of `exec` whose instruction has no meaning yet (safe: the run stops there). No arm uses it. -/
  | notModelled (mnemonic : String)
deriving DecidableEq, Repr

/-- Right after power-on reset is released (70_reset_and_hazards.md R230, R231; log 8). The bytes of PAY and PKT are
unspecified in the spec: zero here is a DESIGN CHOICE (log 3). The host's side is empty (logs 1, 9, 10). -/
def State.reset : State where
  crc := 0x0000
  seq := 0x01
  fill := 0
  pay := Vector.replicate 128 0
  pkt := Vector.replicate 133 0
  pktValid := false
  errs := 0
  rdata := 0x0000
  txq := []
  resetLine := false
  inputs := []
  taken := []
  sampled := []
  draws := 0

end Sys2Proof.Machine
end

