-- ==== Sys2Proof/Machine/Flags.lean ====
section
/-! DEFINITION. The status register STAT (10_state.md R28 to R31): which bit each error sets, and the value a read
computes. -/

namespace Sys2Proof.Machine

/-- The bit of `State.errs` that an error sets; its STAT bit, the error's code, is 8 more (60_exceptions.md R201 to R205). -/
def ErrorKind.bit : ErrorKind → Nat
  | .ill => 0
  | .ovf => 1
  | .seq0 => 2
  | .nopkt => 3
  | .range => 4

/-- The cause code of an error: its STAT bit number (60_exceptions.md R200). -/
def ErrorKind.code (e : ErrorKind) : Nat := 8 + e.bit

/-- The error's bit alone, within STAT[12:8]. -/
def ErrorKind.flag (e : ErrorKind) : BitVec 5 := 1#5 <<< e.bit

/-- PAY_EMPTY, computed: 1 if and only if FILL = 0 (10_state.md R28, R29). -/
def State.payEmpty (s : State) : Bool := s.fill == 0

/-- PAY_FULL, computed: 1 if and only if FILL = 128 (10_state.md R28, R29). -/
def State.payFull (s : State) : Bool := s.fill == 128

/-- STAT as a read gives it (10_state.md R28, R29, R31): bits 15:13 zero, 12:8 the sticky errors, 7:3 zero, 2 PAY_EMPTY,
1 PAY_FULL, 0 PKT_VALID. -/
def State.stat (s : State) : Word :=
  0#3 ++ s.errs ++ 0#5 ++ BitVec.ofBool s.payEmpty ++ BitVec.ofBool s.payFull ++ BitVec.ofBool s.pktValid

end Sys2Proof.Machine
end

