-- ==== Sys2Proof/Machine/Operands.lean ====
section
/-! DEFINITION. How operand bytes and 16-bit values are taken apart and put together (00_scope.md R10, R11,
30_encoding.md R71). -/

namespace Sys2Proof.Machine

/-- `hi8(v) = v[15:8]` (00_scope.md R10). -/
def hi8 (v : Word) : Byte := v.extractLsb' 8 8

/-- `lo8(v) = v[7:0]` (00_scope.md R10). -/
def lo8 (v : Word) : Byte := v.extractLsb' 0 8

/-- The pair of two bytes, `(a << 8) | b` (00_scope.md R10). -/
def pair (a b : Byte) : Word := a ++ b

/-- `zext16(b)`: low byte `b`, high byte 0 (00_scope.md R11, 20_memory.md R52). -/
def zext16 (b : Byte) : Word := b.setWidth 16

/-- The bits of ERR_CLR's mask that count: bits 4:0; bits 7:5 are ignored (30_encoding.md R71, R74). -/
def maskBits (m : Byte) : BitVec 5 := m.extractLsb' 0 5

end Sys2Proof.Machine
end

