-- ==== Sys2Proof/Machine/Checksum.lean ====
section
/-! DEFINITION. The CRC-16/XMODEM functions (40_crc.md R101 to R104). -/

namespace Sys2Proof.Machine

/-- `crc_update(s, b)` (40_crc.md R101), step for step; a 16-bit shift drops what `mask16` drops (00_scope.md R9). -/
def crcUpdate (s : Word) (b : Byte) : Word :=
  let swapped := ((s >>> 8) &&& 0xFF) ||| (s <<< 8)
  let fed := swapped ^^^ b.setWidth 16
  let low := fed ^^^ ((fed &&& 0xFF) >>> 4)
  let high := low ^^^ ((low <<< 8) <<< 4)
  high ^^^ (((high &&& 0xFF) <<< 4) <<< 1)

/-- One of the eight rounds of 40_crc.md R102. -/
def crcBit (t : Word) : Word := if t.msb then (t <<< 1) ^^^ Config.crcPoly else t <<< 1

/-- The bitwise definition of 40_crc.md R102. The machine uses `crcUpdate`: "Rule R101 is normative". -/
def crcUpdateBitwise (s : Word) (b : Byte) : Word := crcBit^[8] (s ^^^ (b.setWidth 16 <<< 8))

/-- `crc_fold` (40_crc.md R103). -/
def crcFold (s : Word) : List Byte → Word
  | [] => s
  | b :: bs => crcFold (crcUpdate s b) bs

/-- `crc_of` (40_crc.md R104). -/
def crcOf (bs : List Byte) : Word := crcFold Config.crcInit bs

end Sys2Proof.Machine
end

