-- ==== Sys2Proof/Machine/Packet.lean ====
section
/-! DEFINITION. The pure functions of the packet framer: complement, padding, layout, sequence successor (41_framer.md
R120, R122, R125, R127, 20_memory.md R53). -/

namespace Sys2Proof.Machine

/-- `comp8(n) = 255 - n` (41_framer.md R120). -/
def comp8 (n : Byte) : Byte := 255 - n

/-- `pad128(buf, k)` (41_framer.md R120): byte i of the buffer where i < k, the filler byte elsewhere.
Irreducible, so that comparing two states does not compute a checksum; `pad128_getElem` in Laws/Ops.lean says what it
holds. -/
@[irreducible] def pad128 (buf : Vector Byte 128) (k : Nat) : Vector Byte 128 :=
  Vector.ofFn fun i => if i.val < k then buf[i] else Config.pad

/-- The packet's layout (41_framer.md R122, 20_memory.md R53): SOH, the sequence number and its complement, the 128
payload bytes, the checksum of those bytes high byte first (20_memory.md R51). -/
def framePacket (n : Byte) (p : Vector Byte 128) : Vector Byte 133 :=
  ((#v[Config.soh, n, comp8 n] ++ p) ++ #v[hi8 (crcOf p.toList), lo8 (crcOf p.toList)]).cast (by decide)

/-- `next_seq(n)` (41_framer.md R125): 255 is followed by 1 (90_conflicts.md C1). At 0, which never occurs in SEQ, it
gives 1 (log 12). -/
def nextSeq (n : Byte) : Byte := if n = Config.seqLast then Config.seqFirst else n + 1

/-- A chunk padded to 128 bytes, as a list (41_framer.md R120, R127); for chunks of at most 128 bytes. -/
def padChunk (ch : List Byte) : List Byte := ch ++ List.replicate (128 - ch.length) Config.pad

/-- `frame(n, ch)` (41_framer.md R127), as the list of the packet's bytes. -/
def frame (n : Byte) (ch : List Byte) : List Byte :=
  [Config.soh, n, comp8 n] ++ padChunk ch ++ [hi8 (crcOf (padChunk ch)), lo8 (crcOf (padChunk ch))]

end Sys2Proof.Machine
end

