-- ==== Sys2Proof/Machine/Ops.lean ====
section
/-! DEFINITION. The named operations on the state, which every meaning and the step are written with. -/

namespace Sys2Proof.Machine

/-- `raise E_x` (00_scope.md R11, 60_exceptions.md R200): the shared way to report an error. It sets the sticky bit; it
saves nothing, changes no mode and transfers control nowhere (R207). -/
def State.raise (s : State) (e : ErrorKind) : State := { s with errs := s.errs ||| e.flag }

/-- Clear the selected sticky bits (42_control.md R158). It stands where a return from an exception would: XMF has none
(60_exceptions.md R208). -/
def State.clearErrors (s : State) (m : BitVec 5) : State := { s with errs := s.errs &&& ~~~m }

/-- Write CRC. -/
def State.setCrc (s : State) (v : Word) : State := { s with crc := v }

/-- Write SEQ. -/
def State.setSeq (s : State) (n : Byte) : State := { s with seq := n }

/-- Write RDATA (10_state.md R32). -/
def State.setRdata (s : State) (v : Word) : State := { s with rdata := v }

/-- `FILL <- 0`; PAY is not erased (41_framer.md R123). -/
def State.clearPay (s : State) : State := { s with fill := 0 }

/-- `PAY[FILL] <- d ; FILL <- FILL + 1` (41_framer.md R121). Where FILL is no index of PAY, which is so at 128, where
PAY_PUT raises E_OVF instead, and above 128, which never occurs, no byte is written (log 12). -/
def State.putPay (s : State) (d : Byte) : State :=
  { s with pay := s.pay.setIfInBounds s.fill.toNat d, fill := s.fill + 1 }

/-- The payload BUILD frames: `pad128(PAY, FILL)` (41_framer.md R122). -/
def State.payload (s : State) : Vector Byte 128 := pad128 s.pay s.fill.toNat

/-- What BUILD writes (41_framer.md R122): PKT, CRC, PKT_VALID and FILL. PAY's contents are then unspecified: a free
value (log 5). -/
def State.loadPacket (s : State) (p : Vector Byte 128) : State :=
  { s with
    pkt := framePacket s.seq p
    crc := crcOf p.toList
    pktValid := true
    fill := 0
    pay := Config.unspecifiedPay s.draws
    draws := s.draws + 1 }

/-- `emit(bs)`: append the whole list to TXQ in one step (20_memory.md R55). -/
def State.emit (s : State) (bs : List Byte) : State := { s with txq := s.txq ++ bs }

/-- The reset of 70_reset_and_hazards.md R230, shared by SRST and the reset input. PAY and PKT are unspecified: free
values (log 4). TXQ is unchanged. -/
def State.resetRegisters (s : State) : State :=
  { s with
    crc := Config.crcInit
    seq := Config.seqFirst
    fill := 0
    pay := Config.unspecifiedPay s.draws
    pkt := Config.unspecifiedPkt s.draws
    pktValid := false
    errs := 0
    rdata := 0x0000
    draws := s.draws + 1 }

/-- Drive the reset input (70_reset_and_hazards.md R231): asserting it resets the registers and holds them; releasing it
leaves the state of R230. Releasing an input that is not asserted changes nothing (log 7). -/
def State.driveReset (s : State) (asserted : Bool) : State :=
  if asserted || s.resetLine then { s.resetRegisters with resetLine := asserted } else s

/-- The host samples RDATA (10_state.md R32, 20_memory.md R60). -/
def State.sample (s : State) : State := { s with sampled := s.sampled ++ [s.rdata] }

/-- The host consumes `n` bytes from the front of TXQ, or all of them if there are fewer (10_state.md R33; log 9). -/
def State.drain (s : State) (n : Nat) : State := { s with taken := s.taken ++ s.txq.take n, txq := s.txq.drop n }

/-- The host's actions that remain. -/
def State.setInputs (s : State) (rest : List HostAction) : State := { s with inputs := rest }

/-- Every byte emitted since power-on, in order: those the host has consumed and those it has not (10_state.md R33). -/
def State.emitted (s : State) : List Byte := s.taken ++ s.txq

end Sys2Proof.Machine
end

