-- ==== Sys2Proof/Machine/ControlCommands.lean ====
section
/-! DEFINITION. The control and read-back commands (42_control.md R150 to R158). -/

namespace Sys2Proof.Machine

/-- NOP (42_control.md R151). -/
def execNop (_x : Byte) (s : State) : Host.Outcome State Fault Refusal := .next s

/-- RD_CRC (42_control.md R152). -/
def execRdCrc (_x : Byte) (s : State) : Host.Outcome State Fault Refusal := .next (s.setRdata s.crc)

/-- RD_STAT (42_control.md R153). -/
def execRdStat (_x : Byte) (s : State) : Host.Outcome State Fault Refusal := .next (s.setRdata s.stat)

/-- RD_SEQ (42_control.md R154). -/
def execRdSeq (_x : Byte) (s : State) : Host.Outcome State Fault Refusal := .next (s.setRdata (zext16 s.seq))

/-- RD_FILL (42_control.md R155). -/
def execRdFill (_x : Byte) (s : State) : Host.Outcome State Fault Refusal := .next (s.setRdata (zext16 s.fill))

/-- RD_PKT i (42_control.md R156): E_NOPKT is checked before E_RANGE (60_exceptions.md R206); either writes 0x0000 to
RDATA. -/
def execRdPkt (i : Byte) (s : State) : Host.Outcome State Fault Refusal :=
  if s.pktValid then
    if h : i.toNat < 133 then .next (s.setRdata (zext16 s.pkt[i.toNat]))
    else .next ((s.raise .range).setRdata 0x0000)
  else .next ((s.raise .nopkt).setRdata 0x0000)

/-- SRST (42_control.md R157): the reset of 70_reset_and_hazards.md R230. -/
def execSrst (_x : Byte) (s : State) : Host.Outcome State Fault Refusal := .next s.resetRegisters

/-- ERR_CLR m (42_control.md R158). -/
def execErrClr (m : Byte) (s : State) : Host.Outcome State Fault Refusal := .next (s.clearErrors (maskBits m))

end Sys2Proof.Machine
end

