-- ==== Sys2Proof/Machine/CrcCommands.lean ====
section
/-! DEFINITION. The CRC generator commands (40_crc.md R105 to R108). None can raise an error (R100). -/

namespace Sys2Proof.Machine

/-- CRC_CLR (40_crc.md R105). -/
def execCrcClr (_x : Byte) (s : State) : Host.Outcome State Fault Refusal := .next (s.setCrc Config.crcInit)

/-- CRC_BYTE d (40_crc.md R106). -/
def execCrcByte (d : Byte) (s : State) : Host.Outcome State Fault Refusal := .next (s.setCrc (crcUpdate s.crc d))

/-- CRC_LDH d (40_crc.md R107). -/
def execCrcLdh (d : Byte) (s : State) : Host.Outcome State Fault Refusal := .next (s.setCrc (pair d (lo8 s.crc)))

/-- CRC_LDL d (40_crc.md R108). -/
def execCrcLdl (d : Byte) (s : State) : Host.Outcome State Fault Refusal := .next (s.setCrc (pair (hi8 s.crc) d))

end Sys2Proof.Machine
end

