-- ==== Sys2Proof/Machine/FramerCommands.lean ====
section
/-! DEFINITION. The packet framer commands (41_framer.md R121 to R128). -/

namespace Sys2Proof.Machine

/-- PAY_CLR (41_framer.md R123). -/
def execPayClr (_x : Byte) (s : State) : Host.Outcome State Fault Refusal := .next s.clearPay

/-- PAY_PUT d (41_framer.md R121): E_OVF when FILL = 128 (60_exceptions.md R202). -/
def execPayPut (d : Byte) (s : State) : Host.Outcome State Fault Refusal :=
  if s.fill = 128 then .next (s.raise .ovf) else .next (s.putPay d)

/-- SEQ_SET n (41_framer.md R124): E_SEQ0 when n = 0 (60_exceptions.md R203). -/
def execSeqSet (n : Byte) (s : State) : Host.Outcome State Fault Refusal :=
  if n = 0 then .next (s.raise .seq0) else .next (s.setSeq n)

/-- SEQ_ADV (41_framer.md R126). -/
def execSeqAdv (_x : Byte) (s : State) : Host.Outcome State Fault Refusal := .next (s.setSeq (nextSeq s.seq))

/-- BUILD (41_framer.md R122). -/
def execBuild (_x : Byte) (s : State) : Host.Outcome State Fault Refusal := .next (s.loadPacket s.payload)

/-- SEND (41_framer.md R128): E_NOPKT while PKT_VALID = 0 (60_exceptions.md R204). -/
def execSend (_x : Byte) (s : State) : Host.Outcome State Fault Refusal :=
  if s.pktValid then .next (s.emit s.pkt.toList) else .next (s.raise .nopkt)

end Sys2Proof.Machine
end

