-- ==== Sys2Proof/Machine/Dispatch.lean ====
section
/-! DEFINITION. One arm per command of 30_encoding.md R72, each one call of that command's meaning. -/

namespace Sys2Proof.Machine

def exec (i : Instr) (s : State) : Host.Outcome State Fault Refusal :=
  match i with
  | .nop x => Sys2Proof.Machine.execNop x s
  | .crcClr x => Sys2Proof.Machine.execCrcClr x s
  | .crcByte d => Sys2Proof.Machine.execCrcByte d s
  | .crcLdh d => Sys2Proof.Machine.execCrcLdh d s
  | .crcLdl d => Sys2Proof.Machine.execCrcLdl d s
  | .payClr x => Sys2Proof.Machine.execPayClr x s
  | .payPut d => Sys2Proof.Machine.execPayPut d s
  | .seqSet n => Sys2Proof.Machine.execSeqSet n s
  | .seqAdv x => Sys2Proof.Machine.execSeqAdv x s
  | .build x => Sys2Proof.Machine.execBuild x s
  | .send x => Sys2Proof.Machine.execSend x s
  | .rdCrc x => Sys2Proof.Machine.execRdCrc x s
  | .rdStat x => Sys2Proof.Machine.execRdStat x s
  | .rdSeq x => Sys2Proof.Machine.execRdSeq x s
  | .rdFill x => Sys2Proof.Machine.execRdFill x s
  | .rdPkt k => Sys2Proof.Machine.execRdPkt k s
  | .errClr m => Sys2Proof.Machine.execErrClr m s
  | .srst x => Sys2Proof.Machine.execSrst x s

end Sys2Proof.Machine
end

