-- ==== Sys2Proof/Machine/Command.lean ====
section
/-! DEFINITION. What XMF does with one word on the command port and with each other action of the host, and a run of
command words with what it shows (30_encoding.md R70 to R73, 70_reset_and_hazards.md R231, R241, R242). -/

namespace Sys2Proof.Machine

/-- Execute one command word: the command it encodes, or, for an undefined OP, E_ILL and nothing else (30_encoding.md
R73, 60_exceptions.md R201, R206). -/
def execWord (w : Word) (s : State) : Host.Outcome State Fault Refusal :=
  match decode w with
  | .ok i => exec i s
  | .error _ => .next (s.raise .ill)

/-- Take one action of the host (70_reset_and_hazards.md R242). While the reset input is asserted, a command word is not
executed and has no effect (R231). -/
def takeAction (a : HostAction) (s : State) : Host.Outcome State Fault Refusal :=
  match a with
  | .command w => if s.resetLine then .next s else execWord w s
  | .reset asserted => .next (s.driveReset asserted)
  | .sample => .next s.sample
  | .drain n => .next (s.drain n)

/-- Execute a list of commands, one after another (20_memory.md R57). -/
def execAll : List Instr → State → Host.Outcome State Fault Refusal
  | [], s => .next s
  | i :: rest, s =>
    match exec i s with
    | .next t => execAll rest t
    | .fault f => .fault f
    | .refused r => .refused r

/-- The observation of a run (70_reset_and_hazards.md R241): the state after the last command, the RDATA value after each
read command in order, and the bytes TXQ received. -/
structure Observation where
  final : State
  reads : List Word
  bytes : List Byte
deriving DecidableEq, Repr

/-- The word encodes a read command (10_state.md R32). -/
def isReadWord (w : Word) : Bool :=
  match decode w with
  | .ok i => i.isRead
  | .error _ => false

/-- Run a list of command words from a state, and observe it (70_reset_and_hazards.md R241; log 20). A run of XMF starts
at `State.reset`. -/
def observe : List Word → State → Host.Outcome Observation Fault Refusal
  | [], s => .next { final := s, reads := [], bytes := s.emitted }
  | w :: rest, s =>
    match execWord w s with
    | .next t =>
      match observe rest t with
      | .next o => .next { o with reads := if isReadWord w then t.rdata :: o.reads else o.reads }
      | .fault f => .fault f
      | .refused r => .refused r
    | .fault f => .fault f
    | .refused r => .refused r

end Sys2Proof.Machine
end

