-- ==== Sys2Proof/Machine/Step.lean ====
section
/-! DEFINITION. One step of the machine: the next action of the host, taken whole (00_scope.md R12). -/

namespace Sys2Proof.Machine

/-- One step. With nothing on the port XMF holds its state (60_exceptions.md R214; log 2). -/
def step (s : State) : Host.Outcome State Fault Refusal :=
  match s.inputs with
  | [] => .next s
  | a :: rest => takeAction a (s.setInputs rest)

/-- The state with the given instruction as the next word on the command port, and the reset input released so that the
next step executes it (log 1). The bits are numbered from the least significant bit of the one command word. -/
def State.withFetchWord (s : State) (nbits w : Nat) : State :=
  { s with
    inputs := HostAction.command (BitVec.ofNat 16 (w % 2 ^ nbits)) :: s.inputs
    resetLine := false }

end Sys2Proof.Machine
end

