-- ==== Sys2Proof/Machine/Assembler.lean ====
section
/-! DEFINITION. The assembly language and its pseudo-instructions (30_encoding.md R76, R77). It is no part of the machine
(92_eei_decisions.md D22): nothing in the step uses it. Details R76 leaves open are in log 16. -/

namespace Sys2Proof.Machine

/-- The pseudo-instructions of 30_encoding.md R77, with their operands. -/
inductive Pseudo where
  | crcLd16 (v : Word)
  | crcStr (s : List Byte)
  | payStr (s : List Byte)
  | frame (n : Byte) (s : List Byte)
  | errClrAll
deriving DecidableEq, Repr

/-- The expansions of 30_encoding.md R77. -/
def Pseudo.expand : Pseudo → List Instr
  | .crcLd16 v => [.crcLdh (hi8 v), .crcLdl (lo8 v)]
  | .crcStr s => s.map Instr.crcByte
  | .payStr s => s.map Instr.payPut
  | .frame n s => .seqSet n :: .payClr 0 :: (s.map Instr.payPut ++ [.build 0])
  | .errClrAll => [.errClr 0x1F]

/-- Why a line is an assembly error (30_encoding.md R76, R77). -/
inductive AsmError where
  | unknownMnemonic
  | operandMissing
  | operandMalformed
  | operandOutOfRange
  | stringMalformed
  | stringTooLong
  | trailingText
deriving DecidableEq, Repr

/-- The mnemonics of 30_encoding.md R72 with their operand kinds (R71). -/
def mnemonicTable : List (String × OperandKind × (Byte → Instr)) :=
  [("NOP", .ignored, .nop), ("CRC_CLR", .ignored, .crcClr), ("CRC_BYTE", .data, .crcByte), ("CRC_LDH", .data, .crcLdh),
   ("CRC_LDL", .data, .crcLdl), ("PAY_CLR", .ignored, .payClr), ("PAY_PUT", .data, .payPut), ("SEQ_SET", .sequence, .seqSet),
   ("SEQ_ADV", .ignored, .seqAdv), ("BUILD", .ignored, .build), ("SEND", .ignored, .send), ("RD_CRC", .ignored, .rdCrc),
   ("RD_STAT", .ignored, .rdStat), ("RD_SEQ", .ignored, .rdSeq), ("RD_FILL", .ignored, .rdFill), ("RD_PKT", .index, .rdPkt),
   ("ERR_CLR", .mask, .errClr), ("SRST", .ignored, .srst)]

/-- Skip blanks and tabs. -/
def skipBlanks : List Char → List Char
  | [] => []
  | c :: cs => if c.toNat = 32 || c.toNat = 9 then skipBlanks cs else c :: cs

/-- The longest run of letters, digits and underscores, in capitals, and what follows it (mnemonics are
case-insensitive, 30_encoding.md R76). -/
def takeName : List Char → List Char × List Char
  | [] => ([], [])
  | c :: cs =>
    if c.isAlphanum || c.toNat = 95 then (c.toUpper :: (takeName cs).1, (takeName cs).2) else ([], c :: cs)

/-- Nothing but blanks and perhaps a comment is left (30_encoding.md R76). -/
def lineEnds (cs : List Char) : Bool :=
  match skipBlanks cs with
  | [] => true
  | c :: _ => c.toNat = 59

/-- The value of a hexadecimal digit. -/
def hexDigit (c : Char) : Option Nat :=
  if 48 ≤ c.toNat ∧ c.toNat ≤ 57 then some (c.toNat - 48)
  else if 65 ≤ c.toNat ∧ c.toNat ≤ 70 then some (c.toNat - 55)
  else if 97 ≤ c.toNat ∧ c.toNat ≤ 102 then some (c.toNat - 87)
  else none

/-- The value of a decimal digit. -/
def decDigit (c : Char) : Option Nat := if 48 ≤ c.toNat ∧ c.toNat ≤ 57 then some (c.toNat - 48) else none

/-- The digits that lead a text, most significant first, and what follows them. -/
def takeDigits (digit : Char → Option Nat) : List Char → List Nat × List Char
  | [] => ([], [])
  | c :: cs =>
    match digit c with
    | some d => (d :: (takeDigits digit cs).1, (takeDigits digit cs).2)
    | none => ([], c :: cs)

/-- The number a non-empty run of digits writes. -/
def digitsValue (base : Nat) : List Nat → Option Nat
  | [] => none
  | ds => some (ds.foldl (fun v d => base * v + d) 0)

/-- A numeric operand: `0xNN`, a decimal literal, or a character literal standing for its ASCII code (30_encoding.md
R76). -/
def takeNumber (cs : List Char) : Option (Nat × List Char) :=
  match cs with
  | '0' :: 'x' :: rest => (digitsValue 16 (takeDigits hexDigit rest).1).map (·, (takeDigits hexDigit rest).2)
  | q :: c :: q' :: rest =>
    if q.toNat = 39 then (if q'.toNat = 39 && c.toNat < 128 then some (c.toNat, rest) else none)
    else (digitsValue 10 (takeDigits decDigit cs).1).map (·, (takeDigits decDigit cs).2)
  | _ => (digitsValue 10 (takeDigits decDigit cs).1).map (·, (takeDigits decDigit cs).2)

/-- The body of a string literal after its opening quote: printable ASCII, a backslash with `xNN` for a byte, with a
quote for a quote, with a backslash for a backslash (30_encoding.md R77). The first argument bounds its length. -/
def takeStringBody : Nat → List Char → Option (List Byte × List Char)
  | 0, _ => none
  | fuel + 1, cs =>
    match cs with
    | [] => none
    | c :: rest =>
      if c.toNat = 34 then some ([], rest)
      else if c.toNat = 92 then
        match rest with
        | [] => none
        | e :: rest' =>
          if e.toNat = 34 || e.toNat = 92 then
            (takeStringBody fuel rest').map fun r => (BitVec.ofNat 8 e.toNat :: r.1, r.2)
          else if e = 'x' then
            match rest' with
            | h :: l :: rest'' =>
              match hexDigit h, hexDigit l with
              | some a, some b => (takeStringBody fuel rest'').map fun r => (BitVec.ofNat 8 (16 * a + b) :: r.1, r.2)
              | _, _ => none
            | _ => none
          else none
      else if 32 ≤ c.toNat ∧ c.toNat ≤ 126 then
        (takeStringBody fuel rest).map fun r => (BitVec.ofNat 8 c.toNat :: r.1, r.2)
      else none

/-- A string literal between double quotes (30_encoding.md R77). -/
def takeString (cs : List Char) : Option (List Byte × List Char) :=
  match cs with
  | c :: rest => if c.toNat = 34 then takeStringBody (rest.length + 1) rest else none
  | [] => none

/-- One numeric operand below `bound` that ends the line (30_encoding.md R76). -/
def numberOperand (bound : Nat) (cs : List Char) : Except AsmError Nat :=
  if lineEnds cs then .error .operandMissing
  else match takeNumber (skipBlanks cs) with
    | none => .error .operandMalformed
    | some (v, rest) =>
      if v < bound then (if lineEnds rest then .ok v else .error .trailingText) else .error .operandOutOfRange

/-- One string operand that ends the line (30_encoding.md R77). -/
def stringOperand (cs : List Char) : Except AsmError (List Byte) :=
  match takeString (skipBlanks cs) with
  | none => .error .stringMalformed
  | some (s, rest) => if lineEnds rest then .ok s else .error .trailingText

/-- The same, of at most 128 characters: the operand of PAY_STR and of FRAME (30_encoding.md R77). -/
def chunkOperand (cs : List Char) : Except AsmError (List Byte) :=
  match stringOperand cs with
  | .error e => .error e
  | .ok s => if s.length ≤ 128 then .ok s else .error .stringTooLong

/-- FRAME's operands `n, "s"` (30_encoding.md R77). -/
def frameOperands (cs : List Char) : Except AsmError (List Instr) :=
  match takeNumber (skipBlanks cs) with
  | none => .error .operandMalformed
  | some (n, rest) =>
    if n < 256 then
      match skipBlanks rest with
      | ',' :: rest' =>
        match chunkOperand rest' with
        | .ok s => .ok (Pseudo.frame (BitVec.ofNat 8 n) s).expand
        | .error e => .error e
      | _ => .error .operandMalformed
    else .error .operandOutOfRange

/-- The commands of a line whose name is no pseudo-instruction's (30_encoding.md R76). `ERR_CLR` without operand is the
pseudo-instruction of R77. -/
def commandLine (name rest : List Char) : Except AsmError (List Instr) :=
  match mnemonicTable.find? (fun r => r.1.toList == name) with
  | none => .error .unknownMnemonic
  | some (_, .ignored, mk) => if lineEnds rest then .ok [mk 0x00] else .error .trailingText
  | some (_, .mask, mk) =>
    if lineEnds rest then .ok Pseudo.errClrAll.expand else (numberOperand 256 rest).map fun v => [mk (BitVec.ofNat 8 v)]
  | some (_, .data, mk) => (numberOperand 256 rest).map fun v => [mk (BitVec.ofNat 8 v)]
  | some (_, .sequence, mk) => (numberOperand 256 rest).map fun v => [mk (BitVec.ofNat 8 v)]
  | some (_, .index, mk) => (numberOperand 256 rest).map fun v => [mk (BitVec.ofNat 8 v)]

/-- The commands of one line, `MNEMONIC [operand] [; comment]` (30_encoding.md R76, R77). The
mnemonic is the longest run of letters, digits and underscores. R76 does not say whether a blank must stand between it and
its operand: DESIGN CHOICE, none need (`PAY_PUT'A'`, `CRC_STR"x"`; log 16). A line without a mnemonic gives no command
(log 16). -/
def assembleLine (line : List Char) : Except AsmError (List Instr) :=
  if lineEnds line then .ok []
  else
    let name := (takeName (skipBlanks line)).1
    let rest := (takeName (skipBlanks line)).2
    if name = "CRC_LD16".toList then (numberOperand 65536 rest).map fun v => (Pseudo.crcLd16 (BitVec.ofNat 16 v)).expand
    else if name = "CRC_STR".toList then (stringOperand rest).map fun s => (Pseudo.crcStr s).expand
    else if name = "PAY_STR".toList then (chunkOperand rest).map fun s => (Pseudo.payStr s).expand
    else if name = "FRAME".toList then frameOperands rest
    else commandLine name rest

/-- The command words of a program, one command per line (30_encoding.md R76). -/
def assemble : List (List Char) → Except AsmError (List Word)
  | [] => .ok []
  | line :: lines =>
    match assembleLine line, assemble lines with
    | .ok is, .ok ws => .ok (is.map encode ++ ws)
    | .error e, _ => .error e
    | .ok _, .error e => .error e

end Sys2Proof.Machine
end

