-- ==== Sys2Proof/Machine/HostProcedure.lean ====
section
/-! DEFINITION. The host's procedure of 70_reset_and_hazards.md R233, as command sequences. The state machine that issues
them is host software (00_scope.md R5). -/

namespace Sys2Proof.Machine

/-- Load a chunk: one PAY_PUT per byte, in order (41_framer.md R127). -/
def loadChunk (ch : List Byte) : List Instr := ch.map Instr.payPut

/-- Load and frame a chunk: `PAY_CLR; PAY_PUT ...; BUILD` (41_framer.md R127). -/
def frameChunk (ch : List Byte) : List Instr := .payClr 0 :: (loadChunk ch ++ [.build 0])

/-- "Transmitting, fresh packet" (70_reset_and_hazards.md R233). -/
def freshPacket (ch : List Byte) : List Instr := frameChunk ch ++ [.send 0]

/-- "Transmitting, retry": SEND only (70_reset_and_hazards.md R233). -/
def retryPacket : List Instr := [.send 0]

/-- "AwaitAck: ACK" (70_reset_and_hazards.md R233). -/
def onAck : List Instr := [.seqAdv 0]

end Sys2Proof.Machine
end

