-- ==== Sys2Proof/Safety.lean ====
section
/-! DEFINITION. What counts as a safe state and a safe run, in the terms the claims use (10_state.md R25, R26, R35,
70_reset_and_hazards.md R241). -/

namespace Sys2Proof.Machine

/-- "No error": STAT[12:8] = 0 (70_reset_and_hazards.md R241). -/
abbrev State.NoError (s : State) : Prop := s.errs = 0

/-- A well-formed packet (10_state.md R35 item 3): SOH, a sequence number in 1..255, its complement, and the checksum of
bytes 3..130 high byte first. -/
abbrev PacketOk (p : Vector Byte 133) : Prop :=
  p[0] = 0x01 ∧ p[2].toNat = 255 - p[1].toNat ∧ 1 ≤ p[1].toNat ∧
    p[131] ++ p[132] = crcOf ((p.toList.drop 3).take 128)

/-- The invariants of 10_state.md R35, its four items in order. -/
abbrev State.Inv (s : State) : Prop :=
  1 ≤ s.seq.toNat ∧ s.fill.toNat ≤ 128 ∧ (s.pktValid = true → PacketOk s.pkt) ∧ 133 ∣ s.emitted.length

/-- Every byte emitted since power-on belongs to a whole, well-formed packet (10_state.md R35, 20_memory.md R55). -/
def State.StreamOk (s : State) : Prop :=
  ∃ packets : List (Vector Byte 133), (∀ p ∈ packets, PacketOk p) ∧ s.emitted = packets.flatMap Vector.toList

/-- The values of 70_reset_and_hazards.md R230 that the spec states; PAY and PKT are unspecified there. -/
abbrev State.HasResetValues (s : State) : Prop :=
  s.crc = 0x0000 ∧ s.seq = 0x01 ∧ s.fill = 0 ∧ s.pktValid = false ∧ s.errs = 0 ∧ s.stat = 0x0004 ∧ s.rdata = 0x0000

/-- The OP values of 30_encoding.md R73. -/
abbrev undefinedOp (op : Byte) : Prop :=
  (0x05 ≤ op ∧ op ≤ 0x0F) ∨ (0x12 ≤ op ∧ op ≤ 0x1F) ∨ (0x22 ≤ op ∧ op ≤ 0x2F) ∨ (0x32 ≤ op ∧ op ≤ 0x3F) ∨
    (0x45 ≤ op ∧ op ≤ 0x4F) ∨ (0x51 ≤ op ∧ op ≤ 0x5E) ∨ 0x60 ≤ op

/-- Two states agree on all that can ever be observed: they may differ in PAY from FILL on (10_state.md R25), in PKT
while PKT_VALID is 0 (R26), and in the model's own count of draws. -/
structure SameObservable (s t : State) : Prop where
  crc : s.crc = t.crc
  seq : s.seq = t.seq
  fill : s.fill = t.fill
  pay : ∀ (i : Nat) (h : i < 128), i < s.fill.toNat → s.pay[i] = t.pay[i]
  pktValid : s.pktValid = t.pktValid
  pkt : s.pktValid = true → s.pkt = t.pkt
  errs : s.errs = t.errs
  rdata : s.rdata = t.rdata
  txq : s.txq = t.txq
  resetLine : s.resetLine = t.resetLine
  inputs : s.inputs = t.inputs
  taken : s.taken = t.taken
  sampled : s.sampled = t.sampled

/-- `crc_update` of 40_crc.md R101 written on natural numbers, each `mask16` a remainder (00_scope.md R9): the reading
the model's bit-vector form is compared with. -/
def crcUpdateNat (s b : Nat) : Nat :=
  let t := (((s >>> 8) &&& 0xFF) ||| (s <<< 8)) % 2 ^ 16
  let t := t ^^^ b
  let t := t ^^^ ((t &&& 0xFF) >>> 4)
  let t := (t ^^^ ((t <<< 8) <<< 4)) % 2 ^ 16
  (t ^^^ (((t &&& 0xFF) <<< 4) <<< 1)) % 2 ^ 16

end Sys2Proof.Machine
end

