-- ==== Sys2Proof/Certificates/Slice0/Obligations.lean ====
section
/-! DEFINITION. The statements for the provers, each from the rules its docstring cites. The word "log n" in a docstring
names a choice of the model that the statement rests on (notes/assumptions/n.md). -/

open Sys2Proof Sys2Proof.Machine

/-! ### Encoding (30_encoding.md) -/

/-- Sanity: words written out bit by bit from 30_encoding.md R70 and R72 decode to the commands they stand for. -/
def Obligations.WrittenOutWordsDecode : Prop :=
  decode 0b0000000000000000 = .ok (.nop 0x00) ∧ decode 0b0000001001010110 = .ok (.crcByte 0x56) ∧
  decode 0b0001000101000001 = .ok (.payPut 0x41) ∧ decode 0b0010000011111111 = .ok (.seqSet 0xFF) ∧
  decode 0b0011000010100101 = .ok (.build 0xA5) ∧ decode 0b0100010010000011 = .ok (.rdPkt 0x83) ∧
  decode 0b0101111100000000 = .ok (.srst 0x00)

/-- 30_encoding.md R72: the 18 opcodes, each with every operand byte. -/
def Obligations.OpcodeMapDecodes : Prop :=
  ∀ b : Byte,
    decode (0x00#8 ++ b) = .ok (.nop b) ∧ decode (0x01#8 ++ b) = .ok (.crcClr b) ∧
    decode (0x02#8 ++ b) = .ok (.crcByte b) ∧ decode (0x03#8 ++ b) = .ok (.crcLdh b) ∧
    decode (0x04#8 ++ b) = .ok (.crcLdl b) ∧ decode (0x10#8 ++ b) = .ok (.payClr b) ∧
    decode (0x11#8 ++ b) = .ok (.payPut b) ∧ decode (0x20#8 ++ b) = .ok (.seqSet b) ∧
    decode (0x21#8 ++ b) = .ok (.seqAdv b) ∧ decode (0x30#8 ++ b) = .ok (.build b) ∧
    decode (0x31#8 ++ b) = .ok (.send b) ∧ decode (0x40#8 ++ b) = .ok (.rdCrc b) ∧
    decode (0x41#8 ++ b) = .ok (.rdStat b) ∧ decode (0x42#8 ++ b) = .ok (.rdSeq b) ∧
    decode (0x43#8 ++ b) = .ok (.rdFill b) ∧ decode (0x44#8 ++ b) = .ok (.rdPkt b) ∧
    decode (0x50#8 ++ b) = .ok (.errClr b) ∧ decode (0x5F#8 ++ b) = .ok (.srst b)

/-- 30_encoding.md R73, 60_exceptions.md R201: the 238 undefined opcodes set E_ILL and change nothing else; every other
word is a command. -/
def Obligations.UndefinedOpcodeSetsIllOnly : Prop :=
  (∀ (w : Word) (s : State), undefinedOp (w.extractLsb' 8 8) → execWord w s = .next { s with errs := s.errs ||| 0b00001 }) ∧
  (∀ w : Word, ¬ undefinedOp (w.extractLsb' 8 8) → ∃ i, decode w = .ok i) ∧
  ((List.range 256).filter fun n => decide (undefinedOp (BitVec.ofNat 8 n))).length = 238

/-- 30_encoding.md R70, R72: no bit of an encoding is dropped. -/
def Obligations.DecodeOfEncodeGivesTheCommandBack : Prop := ∀ i : Instr, decode (encode i) = .ok i

/-- 30_encoding.md R70, R72: a defined word has one meaning, and that meaning one word. -/
def Obligations.EncodeOfDecodeGivesTheWordBack : Prop :=
  ∀ (w : Word) (i : Instr), decode w = .ok i → encode i = w

/-- 30_encoding.md R70: stored words are big-endian, OP first, and a stored program loads back. -/
def Obligations.StoredProgramLoadsBack : Prop :=
  (∀ is : List Instr, loadProgram (storeProgram is) = .ok is) ∧
  ∀ (i : Instr) (rest : List Instr), storeProgram (i :: rest) = i.opcode :: i.imm :: storeProgram rest

/-- 30_encoding.md R74: an ignored operand never matters, and neither do bits 7:5 of ERR_CLR's mask; no operand is
refused. -/
def Obligations.IgnoredOperandBitsNeverMatter : Prop :=
  (∀ (i j : Instr) (s : State), i.kind = .ignored → i.opcode = j.opcode → exec i s = exec j s) ∧
  (∀ (m m' : Byte) (s : State), (∀ k < 5, m.getLsbD k = m'.getLsbD k) → exec (.errClr m) s = exec (.errClr m') s) ∧
  ∀ (i : Instr) (s : State), ∃ t, exec i s = .next t

/-! ### The step and the host's actions (70_reset_and_hazards.md) -/

/-- A step runs the command that the next word on the port decodes to, on the state without that word (log 1). -/
def Obligations.StepRunsTheDecodedCommand : Prop :=
  ∀ (s : State) (w : Word) (rest : List HostAction) (i : Instr),
    s.inputs = .command w :: rest → s.resetLine = false → decode w = .ok i →
    step s = exec i { s with inputs := rest }

/-- 60_exceptions.md R214: between commands XMF holds its state (log 2). -/
def Obligations.IdleStepHoldsTheState : Prop := ∀ s : State, s.inputs = [] → step s = .next s

/-- 70_reset_and_hazards.md R231: a word presented while reset is asserted has no effect; asserting and releasing the
reset input leave the values of R230; after release the next command executes. The values already while asserted are the
model's choice (log 7). -/
def Obligations.ResetInputHoldsAndResets : Prop :=
  (∀ (s : State) (w : Word) (rest : List HostAction), s.inputs = .command w :: rest → s.resetLine = true →
    step s = .next { s with inputs := rest }) ∧
  (∀ (s : State) (rest : List HostAction), s.inputs = .reset true :: rest →
    ∃ t, step s = .next t ∧ t.HasResetValues ∧ t.resetLine = true ∧ t.inputs = rest ∧ t.txq = s.txq ∧
      t.taken = s.taken ∧ t.sampled = s.sampled) ∧
  (∀ (s : State) (rest : List HostAction), s.inputs = .reset false :: rest → s.resetLine = true →
    ∃ t, step s = .next t ∧ t.HasResetValues ∧ t.resetLine = false ∧ t.inputs = rest ∧ t.txq = s.txq ∧
      t.taken = s.taken ∧ t.sampled = s.sampled ∧
      ∀ w rest', rest = .command w :: rest' → step t = execWord w { t with inputs := rest' })

/-- 20_memory.md R60, 70_reset_and_hazards.md R242: sampling RDATA and draining TXQ change no register of XMF; drained
bytes come in emission order, none lost or duplicated (logs 9 and 10). That both work while the reset input is asserted
too is log 7. -/
def Obligations.SampleAndDrainChangeNoRegister : Prop :=
  (∀ (s : State) (rest : List HostAction), s.inputs = .sample :: rest →
    step s = .next { s with inputs := rest, sampled := s.sampled ++ [s.rdata] }) ∧
  ∀ (s : State) (n : Nat) (rest : List HostAction), s.inputs = .drain n :: rest →
    ∃ t, step s = .next t ∧ t.taken ++ t.txq = s.taken ++ s.txq ∧
      t.taken.length = s.taken.length + min n s.txq.length ∧
      t = { s with inputs := rest, taken := t.taken, txq := t.txq }

/-- 70_reset_and_hazards.md R241: XMF never gets stuck, never hangs and never refuses a word. R241 speaks of command
words only: the host's other actions are logs 1 and 7, a step with no action waiting is log 2, and states that never occur
are log 12. -/
def Obligations.EveryRunCompletes : Prop :=
  ∀ (k : Nat) (s : State), ∃ t, Host.Core.run Sys2Proof.core k s = .next t

/-- 70_reset_and_hazards.md R241: a list of command words has one run, and its observation is that of the machine's
steps on those words (logs 1 and 20). -/
def Obligations.ObservationIsThatOfTheSteps : Prop :=
  ∀ (ws : List Word) (s : State), s.resetLine = false →
    ∃ o, observe ws { s with inputs := [] } = .next o ∧
      Host.Core.run Sys2Proof.core ws.length { s with inputs := ws.map HostAction.command } = .next o.final ∧
      o.bytes = o.final.emitted ∧ o.reads.length = (ws.filter isReadWord).length ∧
      ∀ xs w ys, ws = xs ++ w :: ys → isReadWord w = true →
        ∃ p, Host.Core.run Sys2Proof.core (xs.length + 1) { s with inputs := ws.map HostAction.command } = .next p ∧
          o.reads[(xs.filter isReadWord).length]? = some p.rdata

/-! ### The CRC generator (40_crc.md) -/

/-- 40_crc.md R101 with 00_scope.md R9: the update function on unbounded natural numbers, masked after each step. -/
def Obligations.CrcUpdateIsTheMaskedArithmetic : Prop :=
  ∀ (s : Word) (b : Byte), (crcUpdate s b).toNat = crcUpdateNat s.toNat b.toNat

/-- 40_crc.md section 1, the equivalence of the byte-wise and the bitwise definition. -/
def Obligations.CrcUpdateIsTheBitwiseCrc : Prop :=
  ∀ (s : Word) (b : Byte), crcUpdate s b = crcUpdateBitwise s b

/-- 40_crc.md R103 and R104: chaining, and the checksum of a byte list. -/
def Obligations.CrcOfChainsFromZero : Prop :=
  (∀ s : Word, crcFold s [] = s) ∧
  (∀ (s : Word) (b : Byte) (bs : List Byte), crcFold s (b :: bs) = crcFold (crcUpdate s b) bs) ∧
  ∀ bs : List Byte, crcOf bs = crcFold 0x0000 bs

/-- 40_crc.md section 3, item 4: chaining over concatenation. -/
def Obligations.CrcFoldOfAppend : Prop :=
  ∀ (s : Word) (xs ys : List Byte), crcFold s (xs ++ ys) = crcFold (crcFold s xs) ys

/-- 40_crc.md section 3, items 2 and 3: zero and linearity over GF(2). -/
def Obligations.CrcUpdateIsLinear : Prop :=
  crcUpdate 0x0000 0x00 = 0x0000 ∧
  ∀ (s₁ s₂ : Word) (b₁ b₂ : Byte), crcUpdate (s₁ ^^^ s₂) (b₁ ^^^ b₂) = crcUpdate s₁ b₁ ^^^ crcUpdate s₂ b₂

/-- 40_crc.md section 3, item 5: for a fixed byte the update is a bijection on the states. -/
def Obligations.CrcUpdateIsBijectiveInTheState : Prop :=
  ∀ b : Byte, Function.Bijective fun s : Word => crcUpdate s b

/-- 40_crc.md section 3, the receiver check: a byte list followed by its checksum, high byte first, leaves 0x0000. -/
def Obligations.ReceiverResidueIsZero : Prop :=
  ∀ bs : List Byte, crcOf (bs ++ [(crcOf bs).extractLsb' 8 8, (crcOf bs).extractLsb' 0 8]) = 0x0000

/-- 40_crc.md R105: CRC_CLR, for every ignored operand, and its frame. -/
def Obligations.CrcClrWritesZero : Prop :=
  ∀ (x : Byte) (s : State), exec (.crcClr x) s = .next { s with crc := 0x0000 }

/-- 40_crc.md R106: CRC_BYTE, and its frame. -/
def Obligations.CrcByteFeedsOneByte : Prop :=
  ∀ (d : Byte) (s : State), exec (.crcByte d) s = .next { s with crc := crcUpdate s.crc d }

/-- 40_crc.md R107 and R108: CRC_LDH and CRC_LDL write one byte of CRC and nothing else. -/
def Obligations.CrcLoadsWriteOneByte : Prop :=
  ∀ (d : Byte) (s : State),
    exec (.crcLdh d) s = .next { s with crc := d ++ s.crc.extractLsb' 0 8 } ∧
    exec (.crcLdl d) s = .next { s with crc := s.crc.extractLsb' 8 8 ++ d }

/-- 30_encoding.md section 3 (CRC_LD16) and the corner case of CRC_LDL in 40_crc.md section 2: the two loads, in either
order, set CRC to any value. -/
def Obligations.CrcLd16LoadsTheValue : Prop :=
  ∀ (v : Word) (s : State),
    execAll (Pseudo.crcLd16 v).expand s = .next { s with crc := v } ∧
    execAll (Pseudo.crcLd16 v).expand.reverse s = .next { s with crc := v }

/-! ### The packet framer (41_framer.md) -/

/-- 41_framer.md R121, 60_exceptions.md R202: PAY_PUT on a FILL that can occur (at most 128), its error case, and the
frame of each case. -/
def Obligations.PayPutStoresAtFill : Prop :=
  ∀ (d : Byte) (s : State), s.fill.toNat ≤ 128 →
    (s.fill.toNat = 128 → exec (.payPut d) s = .next { s with errs := s.errs ||| 0b00010 }) ∧
    (s.fill.toNat < 128 →
      ∃ t, exec (.payPut d) s = .next t ∧ t.fill.toNat = s.fill.toNat + 1 ∧
        (∀ (i : Nat) (h : i < 128), t.pay[i] = if i = s.fill.toNat then d else s.pay[i]) ∧
        t.stat.getLsbD 1 = decide (t.fill.toNat = 128) ∧ t.stat.getLsbD 2 = false ∧
        t = { s with pay := t.pay, fill := t.fill })

/-- 41_framer.md R123: PAY_CLR, for every ignored operand, and its frame. -/
def Obligations.PayClrEmptiesThePayload : Prop :=
  ∀ (x : Byte) (s : State),
    ∃ t, exec (.payClr x) s = .next t ∧ t = { s with fill := 0 } ∧
      t.stat.getLsbD 1 = false ∧ t.stat.getLsbD 2 = true

/-- 41_framer.md R124, 60_exceptions.md R203: SEQ_SET, its error case, and the frame of each case. -/
def Obligations.SeqSetWritesSeqOrSetsSeq0 : Prop :=
  ∀ (n : Byte) (s : State),
    (n.toNat = 0 → exec (.seqSet n) s = .next { s with errs := s.errs ||| 0b00100 }) ∧
    (1 ≤ n.toNat → exec (.seqSet n) s = .next { s with seq := n })

/-- 41_framer.md R125 and R126: SEQ_ADV on a sequence number (1..255), for every ignored operand, and its frame. -/
def Obligations.SeqAdvWritesTheSuccessor : Prop :=
  ∀ (x : Byte) (s : State), 1 ≤ s.seq.toNat →
    ∃ t, exec (.seqAdv x) s = .next t ∧
      t.seq.toNat = (if s.seq.toNat = 255 then 1 else s.seq.toNat + 1) ∧ t = { s with seq := t.seq }

/-- 41_framer.md section 4: from 1, the sequence numbers run through 1..255 and start again at 1, never 0. -/
def Obligations.SeqAdvCyclesThrough255Values : Prop :=
  ∀ (k : Nat) (s : State), s.seq.toNat = 1 →
    ∃ t, execAll (List.replicate k (.seqAdv 0x00)) s = .next t ∧ t.seq.toNat = k % 255 + 1 ∧ t = { s with seq := t.seq }

/-- 41_framer.md R122 with R120: what BUILD writes on a FILL that can occur (at most 128, the range R120 gives pad128 for;
log 12 has the others), for every ignored operand, and its frame. PAY's contents are unspecified after it (log 5), and the
model's own count of draws (log 6) goes on. -/
def Obligations.BuildFramesThePayload : Prop :=
  ∀ (x : Byte) (s : State), s.fill.toNat ≤ 128 →
    ∃ t, exec (.build x) s = .next t ∧
      t.pkt[0] = 0x01 ∧ t.pkt[1] = s.seq ∧ t.pkt[2].toNat = 255 - s.seq.toNat ∧
      (∀ (i : Nat) (h : i < 128), t.pkt[3 + i]? = some (if i < s.fill.toNat then s.pay[i] else 0x1A)) ∧
      t.crc = crcOf ((t.pkt.toList.drop 3).take 128) ∧
      t.pkt[131] = t.crc.extractLsb' 8 8 ∧ t.pkt[132] = t.crc.extractLsb' 0 8 ∧
      t.pktValid = true ∧ t.fill = 0 ∧
      t.stat.getLsbD 0 = true ∧ t.stat.getLsbD 1 = false ∧ t.stat.getLsbD 2 = true ∧
      t = { s with pkt := t.pkt, crc := t.crc, pktValid := t.pktValid, fill := t.fill, pay := t.pay, draws := t.draws }

/-- 41_framer.md R128: SEND, for every ignored operand, its error case, and the frame of each case. -/
def Obligations.SendEmitsThePacket : Prop :=
  ∀ (x : Byte) (s : State),
    (s.pktValid = true →
      ∃ t, exec (.send x) s = .next t ∧ t.txq = s.txq ++ s.pkt.toList ∧ s.pkt.toList.length = 133 ∧
        t = { s with txq := t.txq }) ∧
    (s.pktValid = false → exec (.send x) s = .next { s with errs := s.errs ||| 0b01000 })

/-- 41_framer.md section 5: loading a chunk of at most 128 bytes and framing it, as words on the port (log 1), leaves
`frame(n, ch)` in PKT and raises no error, whatever CRC, PAY and PKT held before. PAY is unspecified after it (log 5). -/
def Obligations.FramingAChunkLeavesItsFrame : Prop :=
  ∀ (ch : List Byte) (s : State) (rest : List HostAction),
    ch.length ≤ 128 → s.resetLine = false →
    s.inputs = (frameChunk ch).map (fun i => HostAction.command (encode i)) ++ rest →
    ∃ t, Host.Core.run Sys2Proof.core (ch.length + 2) s = .next t ∧
      t.pkt.toList = [0x01, s.seq, 255 - s.seq] ++ (ch ++ List.replicate (128 - ch.length) 0x1A) ++
        [t.crc.extractLsb' 8 8, t.crc.extractLsb' 0 8] ∧
      t.crc = crcOf (ch ++ List.replicate (128 - ch.length) 0x1A) ∧
      t.pkt.toList = frame s.seq ch ∧ t.pktValid = true ∧
      t = { s with
        inputs := rest, crc := t.crc, pkt := t.pkt, pktValid := true, fill := 0, pay := t.pay, draws := t.draws }

/-- 70_reset_and_hazards.md section 2 and 41_framer.md section 6: a fresh packet emits the chunk's frame (41_framer.md
section 5), a retry emits the same 133 bytes again and changes nothing else, and the advance after the ACK gives SEQ its
successor (41_framer.md section 4) and changes nothing else. -/
def Obligations.RetryEmitsTheIdenticalFrame : Prop :=
  ∀ (ch : List Byte) (s : State), ch.length ≤ 128 → 1 ≤ s.seq.toNat →
    ∃ t u v, execAll (freshPacket ch) s = .next t ∧ t.txq = s.txq ++ frame s.seq ch ∧ t.errs = s.errs ∧
      execAll retryPacket t = .next u ∧ u = { t with txq := s.txq ++ frame s.seq ch ++ frame s.seq ch } ∧
      (frame s.seq ch).length = 133 ∧
      execAll onAck u = .next v ∧ v.seq.toNat = (if s.seq.toNat = 255 then 1 else s.seq.toNat + 1) ∧
      v = { u with seq := v.seq }

/-- 20_memory.md section 5 and 70_reset_and_hazards.md section 3: no sequence of commands without BUILD and SRST changes
what SEND emits. -/
def Obligations.FramedPacketSurvivesOtherCommands : Prop :=
  ∀ (cmds : List Instr) (s t : State), (∀ i ∈ cmds, i.opcode ≠ 0x30 ∧ i.opcode ≠ 0x5F) →
    execAll cmds s = .next t → t.pkt = s.pkt ∧ t.pktValid = s.pktValid

/-- 70_reset_and_hazards.md section 3 and 41_framer.md section 3: a second BUILD with no PAY_PUT between, whatever other
words stand on the port between the two (log 1), undefined ones included, frames 128 filler bytes, whose checksum is
0xF8B0, under the sequence number that SEQ holds at the second BUILD. -/
def Obligations.SecondBuildFramesFillerBytes : Prop :=
  ∀ (x y : Byte) (ws : List Word) (s : State) (rest : List HostAction),
    (∀ w ∈ ws, w.extractLsb' 8 8 ≠ 0x11) → s.resetLine = false →
    s.inputs = (encode (.build x) :: ws ++ [encode (.build y)]).map HostAction.command ++ rest →
    ∃ u t, Host.Core.run Sys2Proof.core (ws.length + 1) s = .next u ∧
      Host.Core.run Sys2Proof.core (ws.length + 2) s = .next t ∧
      t.pkt.toList = [0x01, u.seq, 255 - u.seq] ++ List.replicate 128 0x1A ++ [0xF8, 0xB0] ∧ t.crc = 0xF8B0 ∧
      t.pktValid = true

/-! ### Control and read-back (42_control.md) -/

/-- 42_control.md R151: NOP changes nothing, for every ignored operand. -/
def Obligations.NopChangesNothing : Prop := ∀ (x : Byte) (s : State), exec (.nop x) s = .next s

/-- 42_control.md R152, R154 and R155: RD_CRC, RD_SEQ and RD_FILL, for every ignored operand, and their frames. -/
def Obligations.RegisterReadsWriteRdata : Prop :=
  ∀ (x : Byte) (s : State),
    exec (.rdCrc x) s = .next { s with rdata := s.crc } ∧
    (∃ t, exec (.rdSeq x) s = .next t ∧ t.rdata.toNat = s.seq.toNat ∧ t = { s with rdata := t.rdata }) ∧
    ∃ t, exec (.rdFill x) s = .next t ∧ t.rdata.toNat = s.fill.toNat ∧ t = { s with rdata := t.rdata }

/-- 42_control.md R153 with 10_state.md R29 and R31: every bit that RD_STAT reads, for every ignored operand, and its
frame. -/
def Obligations.RdStatReadsEveryStatusBit : Prop :=
  ∀ (x : Byte) (s : State),
    ∃ t, exec (.rdStat x) s = .next t ∧ t = { s with rdata := t.rdata } ∧
      t.rdata.getLsbD 0 = s.pktValid ∧
      t.rdata.getLsbD 1 = decide (s.fill.toNat = 128) ∧
      t.rdata.getLsbD 2 = decide (s.fill.toNat = 0) ∧
      (∀ k, 3 ≤ k → k ≤ 7 → t.rdata.getLsbD k = false) ∧
      (∀ k, 8 ≤ k → k ≤ 12 → t.rdata.getLsbD k = s.errs.getLsbD (k - 8)) ∧
      ∀ k, 13 ≤ k → k ≤ 15 → t.rdata.getLsbD k = false

/-- 42_control.md R156, 60_exceptions.md R205: RD_PKT's three cases in their order, and the frame of each. -/
def Obligations.RdPktReadsOneByteOrReports : Prop :=
  ∀ (k : Byte) (s : State),
    (s.pktValid = false → exec (.rdPkt k) s = .next { s with errs := s.errs ||| 0b01000, rdata := 0x0000 }) ∧
    (s.pktValid = true → 133 ≤ k.toNat →
      exec (.rdPkt k) s = .next { s with errs := s.errs ||| 0b10000, rdata := 0x0000 }) ∧
    (s.pktValid = true → ∀ h : k.toNat < 133,
      ∃ t, exec (.rdPkt k) s = .next t ∧ t.rdata.toNat = s.pkt[k.toNat].toNat ∧ t = { s with rdata := t.rdata })

/-- 42_control.md R158: ERR_CLR clears the selected error bits and nothing else. -/
def Obligations.ErrClrClearsSelectedBits : Prop :=
  ∀ (m : Byte) (s : State),
    ∃ t, exec (.errClr m) s = .next t ∧ t = { s with errs := t.errs } ∧
      ∀ k, k < 5 → t.errs.getLsbD k = (s.errs.getLsbD k && !m.getLsbD k)

/-- 42_control.md R157: SRST leaves the values of 70_reset_and_hazards.md R230, for every ignored operand; bytes in TXQ
stay, and so does the host's side. PAY and PKT are unspecified after it (log 4). -/
def Obligations.SrstLeavesResetValues : Prop :=
  ∀ (x : Byte) (s : State),
    ∃ t, exec (.srst x) s = .next t ∧ t.HasResetValues ∧ t.txq = s.txq ∧ t.resetLine = s.resetLine ∧
      t.inputs = s.inputs ∧ t.taken = s.taken ∧ t.sampled = s.sampled

/-! ### Whole-machine rules -/

/-- 70_reset_and_hazards.md section 1 and 10_state.md section 9: the state after power-on reset has the reset values, an
empty TXQ, and meets the invariants. -/
def Obligations.ResetStateMeetsTheInvariants : Prop :=
  State.reset.HasResetValues ∧ State.reset.txq = [] ∧ State.reset.resetLine = false ∧ State.reset.Inv

/-- 10_state.md section 9: every step keeps the four invariants, from every state that meets them. -/
def Obligations.EveryStepKeepsTheInvariants : Prop :=
  ∀ s t : State, s.Inv → step s = .next t → t.Inv

/-- 10_state.md section 9, 20_memory.md section 4: every byte ever emitted belongs to a whole, well-formed packet; every
step keeps that, from every state that meets it and the invariants. -/
def Obligations.EmittedBytesAreWholeWellFormedPackets : Prop :=
  ∀ s t : State, s.Inv → s.StreamOk → step s = .next t → t.StreamOk

/-- 10_state.md section 8, 20_memory.md section 4: emitted bytes are never taken back or reordered, and only SEND with a
framed packet emits, PKT's 133 bytes as one unit. -/
def Obligations.OnlySendExtendsTheOutput : Prop :=
  ∀ s t : State, step s = .next t →
    t.taken ++ t.txq = s.taken ++ s.txq ∨
    (s.pktValid = true ∧ s.resetLine = false ∧ t.taken = s.taken ∧ t.txq = s.txq ++ s.pkt.toList ∧
      ∃ w rest x, s.inputs = .command w :: rest ∧ decode w = .ok (.send x))

/-- 10_state.md section 5: no command word but BUILD and SRST writes PKT, only BUILD sets PKT_VALID and only SRST clears
it. That SRST writes PKT is log 4: PKT is unspecified after it, so the model gives it a free value. -/
def Obligations.OnlyBuildAndSrstWriteThePacket : Prop :=
  ∀ (w : Word) (s t : State), execWord w s = .next t →
    (t.pkt = s.pkt ∧ t.pktValid = s.pktValid) ∨
    (∃ x, decode w = .ok (.build x) ∧ t.pktValid = true) ∨
    (∃ x, decode w = .ok (.srst x) ∧ t.pktValid = false)

/-- 10_state.md section 7: no word but a read command and SRST changes RDATA, an undefined opcode included. -/
def Obligations.OnlyReadsAndSrstWriteRdata : Prop :=
  ∀ (w : Word) (s t : State), execWord w s = .next t → t.rdata ≠ s.rdata →
    ∃ i, decode w = .ok i ∧ (i.isRead = true ∨ ∃ x, i = .srst x)

/-- 10_state.md section 6: an error bit is cleared only by ERR_CLR with the matching operand bit and by SRST. -/
def Obligations.ErrorBitsStayUntilCleared : Prop :=
  ∀ (w : Word) (s t : State) (k : Nat), execWord w s = .next t → s.errs.getLsbD k = true → t.errs.getLsbD k = false →
    (∃ m, decode w = .ok (.errClr m) ∧ m.getLsbD k = true) ∨ ∃ x, decode w = .ok (.srst x)

/-- 60_exceptions.md section 1: each error bit is set only by its own condition, E_NOPKT before E_RANGE, so one command
raises at most one error. -/
def Obligations.ErrorBitsSetOnlyByTheirConditions : Prop :=
  ∀ (w : Word) (s t : State) (k : Nat), execWord w s = .next t → s.errs.getLsbD k = false → t.errs.getLsbD k = true →
    (k = 0 ∧ undefinedOp (w.extractLsb' 8 8)) ∨
    (k = 1 ∧ s.fill.toNat = 128 ∧ ∃ d, decode w = .ok (.payPut d)) ∨
    (k = 2 ∧ decode w = .ok (.seqSet 0x00)) ∨
    (k = 3 ∧ s.pktValid = false ∧ ((∃ x, decode w = .ok (.send x)) ∨ ∃ j, decode w = .ok (.rdPkt j))) ∨
    (k = 4 ∧ s.pktValid = true ∧ ∃ j, decode w = .ok (.rdPkt j) ∧ 133 ≤ j.toNat)

/-- 10_state.md section 6: a set error bit changes the behaviour of no command: two states that differ in the error bits
alone go to states that differ in them alone, but for what RD_STAT reads. -/
def Obligations.ErrorBitsChangeNoBehaviour : Prop :=
  ∀ (i : Instr) (s : State) (e : BitVec 5),
    ∃ t t', exec i s = .next t ∧ exec i { s with errs := e } = .next t' ∧
      t' = { t with errs := t'.errs, rdata := t'.rdata } ∧ (i.opcode ≠ 0x41 → t'.rdata = t.rdata)

/-- 20_memory.md section 4: a read command repeated with no command between changes nothing more. -/
def Obligations.ReadsAreIdempotent : Prop :=
  ∀ (i : Instr) (s t : State), i.isRead = true → exec i s = .next t → exec i t = .next t

/-- 10_state.md sections 4 and 5: PAY from FILL on, and PKT while PKT_VALID is 0, can never be observed: two states that
differ in them alone take steps to states that differ in them alone. The free values of logs 3, 4 and 5 thus reach no
output, whatever they are. -/
def Obligations.UnspecifiedBytesAreNeverObserved : Prop :=
  ∀ s s' t : State, SameObservable s s' → step s = .next t → ∃ t', step s' = .next t' ∧ SameObservable t t'
end

