-- ==== Sys2Proof/Laws/Bits.lean ====
section
/-! SUPPORT. Bits of a 16-bit word and of its two bytes (00_scope.md R8, R10, 30_encoding.md R70). -/

namespace Sys2Proof

theorem append_getLsbD (a b : Byte) (k : Nat) :
    (a ++ b : Word).getLsbD k = if k < 8 then b.getLsbD k else a.getLsbD (k - 8) :=
  BitVec.getLsbD_append

theorem opField_append (op imm : Byte) : opField (op ++ imm) = op := by
  apply BitVec.eq_of_getLsbD_eq
  intro k hk
  simp only [opField, BitVec.getLsbD_extractLsb', append_getLsbD]
  simp [hk]

theorem immField_append (op imm : Byte) : immField (op ++ imm) = imm := by
  apply BitVec.eq_of_getLsbD_eq
  intro k hk
  simp only [immField, BitVec.getLsbD_extractLsb', append_getLsbD]
  simp [hk]

theorem opField_append_immField (w : Word) : (opField w ++ immField w : Word) = w := by
  apply BitVec.eq_of_getLsbD_eq
  intro k hk
  simp only [opField, immField, append_getLsbD, BitVec.getLsbD_extractLsb']
  split
  · simp [*]
  · have h1 : k - 8 < 8 := by omega
    have h2 : 8 + (k - 8) = k := by omega
    simp [h1, h2]

namespace Machine

theorem pair_hi8_lo8 (v : Word) : pair (hi8 v) (lo8 v) = v := opField_append_immField v

theorem hi8_pair (a b : Byte) : hi8 (pair a b) = a := opField_append a b

theorem lo8_pair (a b : Byte) : lo8 (pair a b) = b := immField_append a b

end Machine

end Sys2Proof
end

