-- ==== Sys2Proof/Laws/State.lean ====
section
/-! SUPPORT. One lemma per field per operation of Machine/Ops.lean: what the operation writes there, or that it leaves the
field alone. No later proof unfolds a record update. -/

namespace Sys2Proof.Machine.State

variable (s : State)

@[simp] theorem raise_crc (e : ErrorKind) : (s.raise e).crc = s.crc := rfl
@[simp] theorem raise_seq (e : ErrorKind) : (s.raise e).seq = s.seq := rfl
@[simp] theorem raise_fill (e : ErrorKind) : (s.raise e).fill = s.fill := rfl
@[simp] theorem raise_pay (e : ErrorKind) : (s.raise e).pay = s.pay := rfl
@[simp] theorem raise_pkt (e : ErrorKind) : (s.raise e).pkt = s.pkt := rfl
@[simp] theorem raise_pktValid (e : ErrorKind) : (s.raise e).pktValid = s.pktValid := rfl
@[simp] theorem raise_errs (e : ErrorKind) : (s.raise e).errs = s.errs ||| e.flag := rfl
@[simp] theorem raise_rdata (e : ErrorKind) : (s.raise e).rdata = s.rdata := rfl
@[simp] theorem raise_txq (e : ErrorKind) : (s.raise e).txq = s.txq := rfl
@[simp] theorem raise_resetLine (e : ErrorKind) : (s.raise e).resetLine = s.resetLine := rfl
@[simp] theorem raise_inputs (e : ErrorKind) : (s.raise e).inputs = s.inputs := rfl
@[simp] theorem raise_taken (e : ErrorKind) : (s.raise e).taken = s.taken := rfl
@[simp] theorem raise_sampled (e : ErrorKind) : (s.raise e).sampled = s.sampled := rfl
@[simp] theorem raise_draws (e : ErrorKind) : (s.raise e).draws = s.draws := rfl

@[simp] theorem clearErrors_crc (m : BitVec 5) : (s.clearErrors m).crc = s.crc := rfl
@[simp] theorem clearErrors_seq (m : BitVec 5) : (s.clearErrors m).seq = s.seq := rfl
@[simp] theorem clearErrors_fill (m : BitVec 5) : (s.clearErrors m).fill = s.fill := rfl
@[simp] theorem clearErrors_pay (m : BitVec 5) : (s.clearErrors m).pay = s.pay := rfl
@[simp] theorem clearErrors_pkt (m : BitVec 5) : (s.clearErrors m).pkt = s.pkt := rfl
@[simp] theorem clearErrors_pktValid (m : BitVec 5) : (s.clearErrors m).pktValid = s.pktValid := rfl
@[simp] theorem clearErrors_errs (m : BitVec 5) : (s.clearErrors m).errs = s.errs &&& ~~~m := rfl
@[simp] theorem clearErrors_rdata (m : BitVec 5) : (s.clearErrors m).rdata = s.rdata := rfl
@[simp] theorem clearErrors_txq (m : BitVec 5) : (s.clearErrors m).txq = s.txq := rfl
@[simp] theorem clearErrors_resetLine (m : BitVec 5) : (s.clearErrors m).resetLine = s.resetLine := rfl
@[simp] theorem clearErrors_inputs (m : BitVec 5) : (s.clearErrors m).inputs = s.inputs := rfl
@[simp] theorem clearErrors_taken (m : BitVec 5) : (s.clearErrors m).taken = s.taken := rfl
@[simp] theorem clearErrors_sampled (m : BitVec 5) : (s.clearErrors m).sampled = s.sampled := rfl
@[simp] theorem clearErrors_draws (m : BitVec 5) : (s.clearErrors m).draws = s.draws := rfl

@[simp] theorem setCrc_crc (v : Word) : (s.setCrc v).crc = v := rfl
@[simp] theorem setCrc_seq (v : Word) : (s.setCrc v).seq = s.seq := rfl
@[simp] theorem setCrc_fill (v : Word) : (s.setCrc v).fill = s.fill := rfl
@[simp] theorem setCrc_pay (v : Word) : (s.setCrc v).pay = s.pay := rfl
@[simp] theorem setCrc_pkt (v : Word) : (s.setCrc v).pkt = s.pkt := rfl
@[simp] theorem setCrc_pktValid (v : Word) : (s.setCrc v).pktValid = s.pktValid := rfl
@[simp] theorem setCrc_errs (v : Word) : (s.setCrc v).errs = s.errs := rfl
@[simp] theorem setCrc_rdata (v : Word) : (s.setCrc v).rdata = s.rdata := rfl
@[simp] theorem setCrc_txq (v : Word) : (s.setCrc v).txq = s.txq := rfl
@[simp] theorem setCrc_resetLine (v : Word) : (s.setCrc v).resetLine = s.resetLine := rfl
@[simp] theorem setCrc_inputs (v : Word) : (s.setCrc v).inputs = s.inputs := rfl
@[simp] theorem setCrc_taken (v : Word) : (s.setCrc v).taken = s.taken := rfl
@[simp] theorem setCrc_sampled (v : Word) : (s.setCrc v).sampled = s.sampled := rfl
@[simp] theorem setCrc_draws (v : Word) : (s.setCrc v).draws = s.draws := rfl

@[simp] theorem setSeq_crc (n : Byte) : (s.setSeq n).crc = s.crc := rfl
@[simp] theorem setSeq_seq (n : Byte) : (s.setSeq n).seq = n := rfl
@[simp] theorem setSeq_fill (n : Byte) : (s.setSeq n).fill = s.fill := rfl
@[simp] theorem setSeq_pay (n : Byte) : (s.setSeq n).pay = s.pay := rfl
@[simp] theorem setSeq_pkt (n : Byte) : (s.setSeq n).pkt = s.pkt := rfl
@[simp] theorem setSeq_pktValid (n : Byte) : (s.setSeq n).pktValid = s.pktValid := rfl
@[simp] theorem setSeq_errs (n : Byte) : (s.setSeq n).errs = s.errs := rfl
@[simp] theorem setSeq_rdata (n : Byte) : (s.setSeq n).rdata = s.rdata := rfl
@[simp] theorem setSeq_txq (n : Byte) : (s.setSeq n).txq = s.txq := rfl
@[simp] theorem setSeq_resetLine (n : Byte) : (s.setSeq n).resetLine = s.resetLine := rfl
@[simp] theorem setSeq_inputs (n : Byte) : (s.setSeq n).inputs = s.inputs := rfl
@[simp] theorem setSeq_taken (n : Byte) : (s.setSeq n).taken = s.taken := rfl
@[simp] theorem setSeq_sampled (n : Byte) : (s.setSeq n).sampled = s.sampled := rfl
@[simp] theorem setSeq_draws (n : Byte) : (s.setSeq n).draws = s.draws := rfl

@[simp] theorem setRdata_crc (v : Word) : (s.setRdata v).crc = s.crc := rfl
@[simp] theorem setRdata_seq (v : Word) : (s.setRdata v).seq = s.seq := rfl
@[simp] theorem setRdata_fill (v : Word) : (s.setRdata v).fill = s.fill := rfl
@[simp] theorem setRdata_pay (v : Word) : (s.setRdata v).pay = s.pay := rfl
@[simp] theorem setRdata_pkt (v : Word) : (s.setRdata v).pkt = s.pkt := rfl
@[simp] theorem setRdata_pktValid (v : Word) : (s.setRdata v).pktValid = s.pktValid := rfl
@[simp] theorem setRdata_errs (v : Word) : (s.setRdata v).errs = s.errs := rfl
@[simp] theorem setRdata_rdata (v : Word) : (s.setRdata v).rdata = v := rfl
@[simp] theorem setRdata_txq (v : Word) : (s.setRdata v).txq = s.txq := rfl
@[simp] theorem setRdata_resetLine (v : Word) : (s.setRdata v).resetLine = s.resetLine := rfl
@[simp] theorem setRdata_inputs (v : Word) : (s.setRdata v).inputs = s.inputs := rfl
@[simp] theorem setRdata_taken (v : Word) : (s.setRdata v).taken = s.taken := rfl
@[simp] theorem setRdata_sampled (v : Word) : (s.setRdata v).sampled = s.sampled := rfl
@[simp] theorem setRdata_draws (v : Word) : (s.setRdata v).draws = s.draws := rfl

@[simp] theorem clearPay_crc : (s.clearPay).crc = s.crc := rfl
@[simp] theorem clearPay_seq : (s.clearPay).seq = s.seq := rfl
@[simp] theorem clearPay_fill : (s.clearPay).fill = 0 := rfl
@[simp] theorem clearPay_pay : (s.clearPay).pay = s.pay := rfl
@[simp] theorem clearPay_pkt : (s.clearPay).pkt = s.pkt := rfl
@[simp] theorem clearPay_pktValid : (s.clearPay).pktValid = s.pktValid := rfl
@[simp] theorem clearPay_errs : (s.clearPay).errs = s.errs := rfl
@[simp] theorem clearPay_rdata : (s.clearPay).rdata = s.rdata := rfl
@[simp] theorem clearPay_txq : (s.clearPay).txq = s.txq := rfl
@[simp] theorem clearPay_resetLine : (s.clearPay).resetLine = s.resetLine := rfl
@[simp] theorem clearPay_inputs : (s.clearPay).inputs = s.inputs := rfl
@[simp] theorem clearPay_taken : (s.clearPay).taken = s.taken := rfl
@[simp] theorem clearPay_sampled : (s.clearPay).sampled = s.sampled := rfl
@[simp] theorem clearPay_draws : (s.clearPay).draws = s.draws := rfl

@[simp] theorem putPay_crc (d : Byte) : (s.putPay d).crc = s.crc := rfl
@[simp] theorem putPay_seq (d : Byte) : (s.putPay d).seq = s.seq := rfl
@[simp] theorem putPay_fill (d : Byte) : (s.putPay d).fill = s.fill + 1 := rfl
@[simp] theorem putPay_pay (d : Byte) : (s.putPay d).pay = s.pay.setIfInBounds s.fill.toNat d := rfl
@[simp] theorem putPay_pkt (d : Byte) : (s.putPay d).pkt = s.pkt := rfl
@[simp] theorem putPay_pktValid (d : Byte) : (s.putPay d).pktValid = s.pktValid := rfl
@[simp] theorem putPay_errs (d : Byte) : (s.putPay d).errs = s.errs := rfl
@[simp] theorem putPay_rdata (d : Byte) : (s.putPay d).rdata = s.rdata := rfl
@[simp] theorem putPay_txq (d : Byte) : (s.putPay d).txq = s.txq := rfl
@[simp] theorem putPay_resetLine (d : Byte) : (s.putPay d).resetLine = s.resetLine := rfl
@[simp] theorem putPay_inputs (d : Byte) : (s.putPay d).inputs = s.inputs := rfl
@[simp] theorem putPay_taken (d : Byte) : (s.putPay d).taken = s.taken := rfl
@[simp] theorem putPay_sampled (d : Byte) : (s.putPay d).sampled = s.sampled := rfl
@[simp] theorem putPay_draws (d : Byte) : (s.putPay d).draws = s.draws := rfl

@[simp] theorem loadPacket_crc (p : Vector Byte 128) : (s.loadPacket p).crc = crcOf p.toList := rfl
@[simp] theorem loadPacket_seq (p : Vector Byte 128) : (s.loadPacket p).seq = s.seq := rfl
@[simp] theorem loadPacket_fill (p : Vector Byte 128) : (s.loadPacket p).fill = 0 := rfl
@[simp] theorem loadPacket_pay (p : Vector Byte 128) : (s.loadPacket p).pay = Config.unspecifiedPay s.draws := rfl
@[simp] theorem loadPacket_pkt (p : Vector Byte 128) : (s.loadPacket p).pkt = framePacket s.seq p := rfl
@[simp] theorem loadPacket_pktValid (p : Vector Byte 128) : (s.loadPacket p).pktValid = true := rfl
@[simp] theorem loadPacket_errs (p : Vector Byte 128) : (s.loadPacket p).errs = s.errs := rfl
@[simp] theorem loadPacket_rdata (p : Vector Byte 128) : (s.loadPacket p).rdata = s.rdata := rfl
@[simp] theorem loadPacket_txq (p : Vector Byte 128) : (s.loadPacket p).txq = s.txq := rfl
@[simp] theorem loadPacket_resetLine (p : Vector Byte 128) : (s.loadPacket p).resetLine = s.resetLine := rfl
@[simp] theorem loadPacket_inputs (p : Vector Byte 128) : (s.loadPacket p).inputs = s.inputs := rfl
@[simp] theorem loadPacket_taken (p : Vector Byte 128) : (s.loadPacket p).taken = s.taken := rfl
@[simp] theorem loadPacket_sampled (p : Vector Byte 128) : (s.loadPacket p).sampled = s.sampled := rfl
@[simp] theorem loadPacket_draws (p : Vector Byte 128) : (s.loadPacket p).draws = s.draws + 1 := rfl

@[simp] theorem emit_crc (bs : List Byte) : (s.emit bs).crc = s.crc := rfl
@[simp] theorem emit_seq (bs : List Byte) : (s.emit bs).seq = s.seq := rfl
@[simp] theorem emit_fill (bs : List Byte) : (s.emit bs).fill = s.fill := rfl
@[simp] theorem emit_pay (bs : List Byte) : (s.emit bs).pay = s.pay := rfl
@[simp] theorem emit_pkt (bs : List Byte) : (s.emit bs).pkt = s.pkt := rfl
@[simp] theorem emit_pktValid (bs : List Byte) : (s.emit bs).pktValid = s.pktValid := rfl
@[simp] theorem emit_errs (bs : List Byte) : (s.emit bs).errs = s.errs := rfl
@[simp] theorem emit_rdata (bs : List Byte) : (s.emit bs).rdata = s.rdata := rfl
@[simp] theorem emit_txq (bs : List Byte) : (s.emit bs).txq = s.txq ++ bs := rfl
@[simp] theorem emit_resetLine (bs : List Byte) : (s.emit bs).resetLine = s.resetLine := rfl
@[simp] theorem emit_inputs (bs : List Byte) : (s.emit bs).inputs = s.inputs := rfl
@[simp] theorem emit_taken (bs : List Byte) : (s.emit bs).taken = s.taken := rfl
@[simp] theorem emit_sampled (bs : List Byte) : (s.emit bs).sampled = s.sampled := rfl
@[simp] theorem emit_draws (bs : List Byte) : (s.emit bs).draws = s.draws := rfl

@[simp] theorem resetRegisters_crc : (s.resetRegisters).crc = Config.crcInit := rfl
@[simp] theorem resetRegisters_seq : (s.resetRegisters).seq = Config.seqFirst := rfl
@[simp] theorem resetRegisters_fill : (s.resetRegisters).fill = 0 := rfl
@[simp] theorem resetRegisters_pay : (s.resetRegisters).pay = Config.unspecifiedPay s.draws := rfl
@[simp] theorem resetRegisters_pkt : (s.resetRegisters).pkt = Config.unspecifiedPkt s.draws := rfl
@[simp] theorem resetRegisters_pktValid : (s.resetRegisters).pktValid = false := rfl
@[simp] theorem resetRegisters_errs : (s.resetRegisters).errs = 0 := rfl
@[simp] theorem resetRegisters_rdata : (s.resetRegisters).rdata = 0 := rfl
@[simp] theorem resetRegisters_txq : (s.resetRegisters).txq = s.txq := rfl
@[simp] theorem resetRegisters_resetLine : (s.resetRegisters).resetLine = s.resetLine := rfl
@[simp] theorem resetRegisters_inputs : (s.resetRegisters).inputs = s.inputs := rfl
@[simp] theorem resetRegisters_taken : (s.resetRegisters).taken = s.taken := rfl
@[simp] theorem resetRegisters_sampled : (s.resetRegisters).sampled = s.sampled := rfl
@[simp] theorem resetRegisters_draws : (s.resetRegisters).draws = s.draws + 1 := rfl

@[simp] theorem sample_crc : (s.sample).crc = s.crc := rfl
@[simp] theorem sample_seq : (s.sample).seq = s.seq := rfl
@[simp] theorem sample_fill : (s.sample).fill = s.fill := rfl
@[simp] theorem sample_pay : (s.sample).pay = s.pay := rfl
@[simp] theorem sample_pkt : (s.sample).pkt = s.pkt := rfl
@[simp] theorem sample_pktValid : (s.sample).pktValid = s.pktValid := rfl
@[simp] theorem sample_errs : (s.sample).errs = s.errs := rfl
@[simp] theorem sample_rdata : (s.sample).rdata = s.rdata := rfl
@[simp] theorem sample_txq : (s.sample).txq = s.txq := rfl
@[simp] theorem sample_resetLine : (s.sample).resetLine = s.resetLine := rfl
@[simp] theorem sample_inputs : (s.sample).inputs = s.inputs := rfl
@[simp] theorem sample_taken : (s.sample).taken = s.taken := rfl
@[simp] theorem sample_sampled : (s.sample).sampled = s.sampled ++ [s.rdata] := rfl
@[simp] theorem sample_draws : (s.sample).draws = s.draws := rfl

@[simp] theorem drain_crc (n : Nat) : (s.drain n).crc = s.crc := rfl
@[simp] theorem drain_seq (n : Nat) : (s.drain n).seq = s.seq := rfl
@[simp] theorem drain_fill (n : Nat) : (s.drain n).fill = s.fill := rfl
@[simp] theorem drain_pay (n : Nat) : (s.drain n).pay = s.pay := rfl
@[simp] theorem drain_pkt (n : Nat) : (s.drain n).pkt = s.pkt := rfl
@[simp] theorem drain_pktValid (n : Nat) : (s.drain n).pktValid = s.pktValid := rfl
@[simp] theorem drain_errs (n : Nat) : (s.drain n).errs = s.errs := rfl
@[simp] theorem drain_rdata (n : Nat) : (s.drain n).rdata = s.rdata := rfl
@[simp] theorem drain_txq (n : Nat) : (s.drain n).txq = s.txq.drop n := rfl
@[simp] theorem drain_resetLine (n : Nat) : (s.drain n).resetLine = s.resetLine := rfl
@[simp] theorem drain_inputs (n : Nat) : (s.drain n).inputs = s.inputs := rfl
@[simp] theorem drain_taken (n : Nat) : (s.drain n).taken = s.taken ++ s.txq.take n := rfl
@[simp] theorem drain_sampled (n : Nat) : (s.drain n).sampled = s.sampled := rfl
@[simp] theorem drain_draws (n : Nat) : (s.drain n).draws = s.draws := rfl

@[simp] theorem setInputs_crc (rest : List HostAction) : (s.setInputs rest).crc = s.crc := rfl
@[simp] theorem setInputs_seq (rest : List HostAction) : (s.setInputs rest).seq = s.seq := rfl
@[simp] theorem setInputs_fill (rest : List HostAction) : (s.setInputs rest).fill = s.fill := rfl
@[simp] theorem setInputs_pay (rest : List HostAction) : (s.setInputs rest).pay = s.pay := rfl
@[simp] theorem setInputs_pkt (rest : List HostAction) : (s.setInputs rest).pkt = s.pkt := rfl
@[simp] theorem setInputs_pktValid (rest : List HostAction) : (s.setInputs rest).pktValid = s.pktValid := rfl
@[simp] theorem setInputs_errs (rest : List HostAction) : (s.setInputs rest).errs = s.errs := rfl
@[simp] theorem setInputs_rdata (rest : List HostAction) : (s.setInputs rest).rdata = s.rdata := rfl
@[simp] theorem setInputs_txq (rest : List HostAction) : (s.setInputs rest).txq = s.txq := rfl
@[simp] theorem setInputs_resetLine (rest : List HostAction) : (s.setInputs rest).resetLine = s.resetLine := rfl
@[simp] theorem setInputs_inputs (rest : List HostAction) : (s.setInputs rest).inputs = rest := rfl
@[simp] theorem setInputs_taken (rest : List HostAction) : (s.setInputs rest).taken = s.taken := rfl
@[simp] theorem setInputs_sampled (rest : List HostAction) : (s.setInputs rest).sampled = s.sampled := rfl
@[simp] theorem setInputs_draws (rest : List HostAction) : (s.setInputs rest).draws = s.draws := rfl

end Sys2Proof.Machine.State
end

