-- ==== Sys2Proof/Laws/Ops.lean ====
section
/-! SUPPORT. What each shared operation and pure function does, said once, for proofs to cite. -/

namespace Sys2Proof.Machine

/-! ### Errors and STAT -/

theorem ErrorKind.flag_getLsbD (e : ErrorKind) (k : Nat) : e.flag.getLsbD k = decide (k = e.bit) := by
  cases e <;> rcases k with _ | _ | _ | _ | _ | k <;> simp [ErrorKind.flag, ErrorKind.bit]

theorem raise_errs_getLsbD (s : State) (e : ErrorKind) (k : Nat) :
    (s.raise e).errs.getLsbD k = (s.errs.getLsbD k || decide (k = e.bit)) := by
  simp [ErrorKind.flag_getLsbD]

theorem maskBits_getLsbD (m : Byte) (k : Nat) : (maskBits m).getLsbD k = (decide (k < 5) && m.getLsbD k) := by
  simp [maskBits]

theorem clearErrors_errs_getLsbD (s : State) (m : BitVec 5) (k : Nat) :
    (s.clearErrors m).errs.getLsbD k = (s.errs.getLsbD k && !m.getLsbD k) := by
  rcases Nat.lt_or_ge k 5 with h | h
  · simp [h]
  · simp [BitVec.getLsbD_of_ge _ _ h]

/-- Every bit of STAT (10_state.md R28, R29, R31). -/
theorem stat_getLsbD (s : State) (k : Nat) :
    s.stat.getLsbD k =
      if k = 0 then s.pktValid else if k = 1 then s.payFull else if k = 2 then s.payEmpty
      else if k < 8 then false else s.errs.getLsbD (k - 8) := by
  change (0#3 ++ s.errs ++ 0#5 ++ BitVec.ofBool s.payEmpty ++ BitVec.ofBool s.payFull ++
    BitVec.ofBool s.pktValid : BitVec (3 + 5 + 5 + 1 + 1 + 1)).getLsbD k = _
  rw [BitVec.getLsbD_append, BitVec.getLsbD_append, BitVec.getLsbD_append, BitVec.getLsbD_append,
    BitVec.getLsbD_append]
  rcases k with _ | _ | _ | k
  · simp
  · simp
  · simp
  · by_cases h : k < 5
    · simp [h]
    · by_cases h5 : k - 5 < 5
      · simp [h, h5, Nat.le_of_not_lt h]
      · simp [h, h5, BitVec.getLsbD_of_ge s.errs (k - 5) (by omega)]

/-- FILL = 128 as a count (10_state.md R24). -/
theorem fill_eq_full_iff (s : State) : s.fill = 128 ↔ s.fill.toNat = 128 := by
  simp [← BitVec.toNat_inj]

theorem payFull_eq (s : State) : s.payFull = decide (s.fill.toNat = 128) := by
  simp [State.payFull, ← BitVec.toNat_inj, Bool.beq_eq_decide_eq]

theorem payEmpty_eq (s : State) : s.payEmpty = decide (s.fill.toNat = 0) := by
  simp [State.payEmpty, ← BitVec.toNat_inj, Bool.beq_eq_decide_eq]

/-! ### Packet functions -/

theorem pad128_getElem (buf : Vector Byte 128) (k i : Nat) (h : i < 128) :
    (pad128 buf k)[i] = if i < k then buf[i] else Config.pad := by
  delta pad128
  simp

theorem payload_eq (s : State) : s.payload = pad128 s.pay s.fill.toNat := rfl

theorem payload_getElem (s : State) (i : Nat) (h : i < 128) :
    s.payload[i] = if i < s.fill.toNat then s.pay[i] else Config.pad := by
  simp only [payload_eq, pad128_getElem]

theorem framePacket_toList (n : Byte) (p : Vector Byte 128) :
    (framePacket n p).toList =
      [Config.soh, n, comp8 n] ++ p.toList ++ [hi8 (crcOf p.toList), lo8 (crcOf p.toList)] := by
  rw [framePacket, Vector.toList_cast, Vector.toList_append, Vector.toList_append]
  rfl

theorem framePacket_getElem? (n : Byte) (p : Vector Byte 128) (i : Nat) :
    (framePacket n p)[i]? =
      ([Config.soh, n, comp8 n] ++ p.toList ++ [hi8 (crcOf p.toList), lo8 (crcOf p.toList)])[i]? := by
  rw [← framePacket_toList, Vector.getElem?_toList]

theorem comp8_toNat (n : Byte) : (comp8 n).toNat = 255 - n.toNat := by
  revert n
  decide +kernel

theorem framePacket_payload (n : Byte) (p : Vector Byte 128) :
    ((framePacket n p).toList.drop 3).take 128 = p.toList := by
  simp [framePacket_toList]

theorem nextSeq_ne_zero (n : Byte) : nextSeq n ≠ 0 := by
  revert n
  decide

/-! ### Checksum -/

@[simp] theorem crcFold_nil (s : Word) : crcFold s [] = s := rfl

@[simp] theorem crcFold_cons (s : Word) (b : Byte) (bs : List Byte) :
    crcFold s (b :: bs) = crcFold (crcUpdate s b) bs := rfl

/-! ### The reset input and the host's side -/

theorem driveReset_cases (s : State) (b : Bool) :
    (b = false ∧ s.resetLine = false ∧ s.driveReset b = s) ∨
      ((b = true ∨ s.resetLine = true) ∧ s.driveReset b = { s.resetRegisters with resetLine := b }) := by
  cases b <;> cases h : s.resetLine <;> simp [State.driveReset, h]

@[simp] theorem drain_emitted (s : State) (n : Nat) : (s.drain n).emitted = s.emitted := by
  simp [State.emitted]

@[simp] theorem emit_emitted (s : State) (bs : List Byte) : (s.emit bs).emitted = s.emitted ++ bs := by
  simp [State.emitted]

end Sys2Proof.Machine
end

