-- ==== Sys2Proof/Laws/PerInstr.lean ====
section
/-! SUPPORT. Per-instruction families: for each constructor, that its encoding decodes to it (30_encoding.md R70, R72). -/

namespace Sys2Proof.Laws

namespace RoundTrip

/-- The command's encoding decodes to the command. -/
def Statement (i : Instr) : Prop := decode (encode i) = .ok i

theorem nop (x : Byte) : Statement (.nop x) := by
  simp [Statement, encode, Instr.opcode, Instr.imm, decode, opField_append, immField_append]

theorem crcClr (x : Byte) : Statement (.crcClr x) := by
  simp [Statement, encode, Instr.opcode, Instr.imm, decode, opField_append, immField_append]

theorem crcByte (d : Byte) : Statement (.crcByte d) := by
  simp [Statement, encode, Instr.opcode, Instr.imm, decode, opField_append, immField_append]

theorem crcLdh (d : Byte) : Statement (.crcLdh d) := by
  simp [Statement, encode, Instr.opcode, Instr.imm, decode, opField_append, immField_append]

theorem crcLdl (d : Byte) : Statement (.crcLdl d) := by
  simp [Statement, encode, Instr.opcode, Instr.imm, decode, opField_append, immField_append]

theorem payClr (x : Byte) : Statement (.payClr x) := by
  simp [Statement, encode, Instr.opcode, Instr.imm, decode, opField_append, immField_append]

theorem payPut (d : Byte) : Statement (.payPut d) := by
  simp [Statement, encode, Instr.opcode, Instr.imm, decode, opField_append, immField_append]

theorem seqSet (n : Byte) : Statement (.seqSet n) := by
  simp [Statement, encode, Instr.opcode, Instr.imm, decode, opField_append, immField_append]

theorem seqAdv (x : Byte) : Statement (.seqAdv x) := by
  simp [Statement, encode, Instr.opcode, Instr.imm, decode, opField_append, immField_append]

theorem build (x : Byte) : Statement (.build x) := by
  simp [Statement, encode, Instr.opcode, Instr.imm, decode, opField_append, immField_append]

theorem send (x : Byte) : Statement (.send x) := by
  simp [Statement, encode, Instr.opcode, Instr.imm, decode, opField_append, immField_append]

theorem rdCrc (x : Byte) : Statement (.rdCrc x) := by
  simp [Statement, encode, Instr.opcode, Instr.imm, decode, opField_append, immField_append]

theorem rdStat (x : Byte) : Statement (.rdStat x) := by
  simp [Statement, encode, Instr.opcode, Instr.imm, decode, opField_append, immField_append]

theorem rdSeq (x : Byte) : Statement (.rdSeq x) := by
  simp [Statement, encode, Instr.opcode, Instr.imm, decode, opField_append, immField_append]

theorem rdFill (x : Byte) : Statement (.rdFill x) := by
  simp [Statement, encode, Instr.opcode, Instr.imm, decode, opField_append, immField_append]

theorem rdPkt (i : Byte) : Statement (.rdPkt i) := by
  simp [Statement, encode, Instr.opcode, Instr.imm, decode, opField_append, immField_append]

theorem errClr (m : Byte) : Statement (.errClr m) := by
  simp [Statement, encode, Instr.opcode, Instr.imm, decode, opField_append, immField_append]

theorem srst (x : Byte) : Statement (.srst x) := by
  simp [Statement, encode, Instr.opcode, Instr.imm, decode, opField_append, immField_append]

end RoundTrip

end Sys2Proof.Laws
end

