-- ==== Sys2Proof/Laws/Step.lean ====
section
/-! SUPPORT. Everything a command and a step can do, said once: case predicates and the inversion lemmas that lead to
them. Invariants are derived from these by cases, without unfolding a meaning. -/

namespace Sys2Proof.Machine

/-- What a command can do, one case per outcome of its rule, with the guard of the case. -/
inductive ExecCase (s : State) : Instr → State → Prop where
  | nop (x : Byte) : ExecCase s (.nop x) s
  | crcClr (x : Byte) : ExecCase s (.crcClr x) (s.setCrc Config.crcInit)
  | crcByte (d : Byte) : ExecCase s (.crcByte d) (s.setCrc (crcUpdate s.crc d))
  | crcLdh (d : Byte) : ExecCase s (.crcLdh d) (s.setCrc (pair d (lo8 s.crc)))
  | crcLdl (d : Byte) : ExecCase s (.crcLdl d) (s.setCrc (pair (hi8 s.crc) d))
  | payClr (x : Byte) : ExecCase s (.payClr x) s.clearPay
  | payPutFull (d : Byte) (h : s.fill = 128) : ExecCase s (.payPut d) (s.raise .ovf)
  | payPut (d : Byte) (h : s.fill ≠ 128) : ExecCase s (.payPut d) (s.putPay d)
  | seqSetZero (n : Byte) (h : n = 0) : ExecCase s (.seqSet n) (s.raise .seq0)
  | seqSet (n : Byte) (h : n ≠ 0) : ExecCase s (.seqSet n) (s.setSeq n)
  | seqAdv (x : Byte) : ExecCase s (.seqAdv x) (s.setSeq (nextSeq s.seq))
  | build (x : Byte) : ExecCase s (.build x) (s.loadPacket s.payload)
  | send (x : Byte) (h : s.pktValid = true) : ExecCase s (.send x) (s.emit s.pkt.toList)
  | sendNoPacket (x : Byte) (h : s.pktValid = false) : ExecCase s (.send x) (s.raise .nopkt)
  | rdCrc (x : Byte) : ExecCase s (.rdCrc x) (s.setRdata s.crc)
  | rdStat (x : Byte) : ExecCase s (.rdStat x) (s.setRdata s.stat)
  | rdSeq (x : Byte) : ExecCase s (.rdSeq x) (s.setRdata (zext16 s.seq))
  | rdFill (x : Byte) : ExecCase s (.rdFill x) (s.setRdata (zext16 s.fill))
  | rdPkt (k : Byte) (h : k.toNat < 133) (hv : s.pktValid = true) :
      ExecCase s (.rdPkt k) (s.setRdata (zext16 s.pkt[k.toNat]))
  | rdPktRange (k : Byte) (h : ¬ k.toNat < 133) (hv : s.pktValid = true) :
      ExecCase s (.rdPkt k) ((s.raise .range).setRdata 0)
  | rdPktNoPacket (k : Byte) (hv : s.pktValid = false) : ExecCase s (.rdPkt k) ((s.raise .nopkt).setRdata 0)
  | errClr (m : Byte) : ExecCase s (.errClr m) (s.clearErrors (maskBits m))
  | srst (x : Byte) : ExecCase s (.srst x) s.resetRegisters

theorem exec_next_case {i : Instr} {s t : State} (h : exec i s = .next t) : ExecCase s i t := by
  cases i <;>
    simp only [exec, execNop, execCrcClr, execCrcByte, execCrcLdh, execCrcLdl, execPayClr, execPayPut, execSeqSet,
      execSeqAdv, execBuild, execSend, execRdCrc, execRdStat, execRdSeq, execRdFill, execRdPkt, execErrClr,
      execSrst] at h
  case payPut d =>
    split at h <;> (obtain rfl := Host.Outcome.next.inj h)
    · exact .payPutFull d ‹_›
    · exact .payPut d ‹_›
  case seqSet n =>
    split at h <;> (obtain rfl := Host.Outcome.next.inj h)
    · exact .seqSetZero n ‹_›
    · exact .seqSet n ‹_›
  case send x =>
    cases hv : s.pktValid <;> simp only [hv, if_true, if_false, Bool.false_eq_true] at h <;>
      (obtain rfl := Host.Outcome.next.inj h)
    · exact .sendNoPacket x hv
    · exact .send x hv
  case rdPkt k =>
    cases hv : s.pktValid <;> simp only [hv, if_true, if_false, Bool.false_eq_true] at h
    · obtain rfl := Host.Outcome.next.inj h
      exact .rdPktNoPacket k hv
    · split at h <;> (obtain rfl := Host.Outcome.next.inj h)
      · exact .rdPkt k ‹_› hv
      · exact .rdPktRange k ‹_› hv
  all_goals
    obtain rfl := Host.Outcome.next.inj h
    constructor

/-- What one word on the command port can do. -/
inductive WordCase (s : State) (w : Word) (t : State) : Prop where
  | defined (i : Instr) (hd : decode w = .ok i) (h : ExecCase s i t)
  | undefined (e : DecodeError) (hd : decode w = .error e) (h : t = s.raise .ill)

theorem execWord_next_case {w : Word} {s t : State} (h : execWord w s = .next t) : WordCase s w t := by
  unfold execWord at h
  split at h
  · exact .defined _ ‹_› (exec_next_case h)
  · exact .undefined _ ‹_› (Host.Outcome.next.inj h).symm

/-- What one step can do. -/
inductive StepCase (s t : State) : Prop where
  | idle (hi : s.inputs = []) (h : t = s)
  | heldInReset (w : Word) (rest : List HostAction) (hi : s.inputs = .command w :: rest) (hl : s.resetLine = true)
      (h : t = s.setInputs rest)
  | word (w : Word) (rest : List HostAction) (hi : s.inputs = .command w :: rest) (hl : s.resetLine = false)
      (h : WordCase (s.setInputs rest) w t)
  | driveReset (b : Bool) (rest : List HostAction) (hi : s.inputs = .reset b :: rest)
      (h : t = (s.setInputs rest).driveReset b)
  | sample (rest : List HostAction) (hi : s.inputs = .sample :: rest) (h : t = (s.setInputs rest).sample)
  | drain (n : Nat) (rest : List HostAction) (hi : s.inputs = .drain n :: rest) (h : t = (s.setInputs rest).drain n)

theorem step_next_case {s t : State} (h : step s = .next t) : StepCase s t := by
  unfold step at h
  split at h
  · exact .idle ‹_› (Host.Outcome.next.inj h).symm
  · rename_i a rest hi
    cases a with
    | command w =>
      cases hl : s.resetLine <;>
        simp only [takeAction, State.setInputs_resetLine, hl, if_true, if_false, Bool.false_eq_true] at h
      · exact .word w rest hi hl (execWord_next_case h)
      · exact .heldInReset w rest hi hl (Host.Outcome.next.inj h).symm
    | reset b => exact .driveReset b rest hi (Host.Outcome.next.inj h).symm
    | sample => exact .sample rest hi (Host.Outcome.next.inj h).symm
    | drain n => exact .drain n rest hi (Host.Outcome.next.inj h).symm

/-! ### Invariants, once -/

/-- What every operation of a step keeps, every step keeps. -/
theorem step_preserves {P : State → Prop} (hin : ∀ s rest, P s → P (s.setInputs rest))
    (hexec : ∀ s i t, P s → ExecCase s i t → P t) (hill : ∀ s, P s → P (s.raise .ill))
    (hreset : ∀ s b, P s → P (s.driveReset b)) (hsample : ∀ s, P s → P s.sample)
    (hdrain : ∀ s n, P s → P (s.drain n)) {s t : State} (hs : P s) (h : step s = .next t) : P t := by
  cases step_next_case h with
  | idle _ e => exact e ▸ hs
  | heldInReset _ rest _ _ e => exact e ▸ hin s rest hs
  | word _ rest _ _ hw =>
    cases hw with
    | defined i _ hc => exact hexec _ i t (hin s rest hs) hc
    | undefined _ _ e => exact e ▸ hill _ (hin s rest hs)
  | driveReset b rest _ e => exact e ▸ hreset _ b (hin s rest hs)
  | sample rest _ e => exact e ▸ hsample _ (hin s rest hs)
  | drain n rest _ e => exact e ▸ hdrain _ n (hin s rest hs)

/-! ### Commands do not see the host's remaining actions -/

theorem exec_setInputs {i : Instr} {s t : State} (h : exec i s = .next t) (rest : List HostAction) :
    exec i (s.setInputs rest) = .next (t.setInputs rest) := by
  have hc := exec_next_case h
  clear h
  cases hc
  case payPutFull h => exact (if_pos (c := (s.setInputs rest).fill = 128) h).trans rfl
  case payPut h => exact (if_neg (c := (s.setInputs rest).fill = 128) h).trans rfl
  case seqSetZero h => exact (if_pos h).trans rfl
  case seqSet h => exact (if_neg h).trans rfl
  case send h => simp only [exec, execSend, State.setInputs_pktValid, h, if_true]; rfl
  case sendNoPacket h => simp only [exec, execSend, State.setInputs_pktValid, h]; rfl
  case rdPkt h hv => simp only [exec, execRdPkt, State.setInputs_pktValid, hv, if_true, dif_pos h]; rfl
  case rdPktRange h hv => simp only [exec, execRdPkt, State.setInputs_pktValid, hv, if_true, dif_neg h]; rfl
  case rdPktNoPacket hv => simp only [exec, execRdPkt, State.setInputs_pktValid, hv]; rfl
  all_goals rfl

/-- A command changes neither the host's side of the interface nor the reset input. -/
theorem ExecCase.host_side {s t : State} {i : Instr} (h : ExecCase s i t) :
    t.inputs = s.inputs ∧ t.resetLine = s.resetLine ∧ t.taken = s.taken ∧ t.sampled = s.sampled := by
  cases h <;> exact ⟨rfl, rfl, rfl, rfl⟩

/-- A word on the command port changes neither the host's side of the interface nor the reset input. -/
theorem WordCase.host_side {s t : State} {w : Word} (h : WordCase s w t) :
    t.inputs = s.inputs ∧ t.resetLine = s.resetLine ∧ t.taken = s.taken ∧ t.sampled = s.sampled := by
  cases h with
  | defined _ _ hc => exact hc.host_side
  | undefined _ _ e => subst e; exact ⟨rfl, rfl, rfl, rfl⟩

/-- A step with a word on the port and reset released executes that word. -/
theorem step_eq_execWord {s : State} {w : Word} {rest : List HostAction} (hi : s.inputs = .command w :: rest)
    (hl : s.resetLine = false) : step s = execWord w (s.setInputs rest) := by
  simp [step, hi, takeAction, hl]

/-- The command that a word decodes to has the word's OP as its opcode. -/
theorem opcode_of_decode {w : Word} {i : Instr} (h : decode w = .ok i) : w.extractLsb' 8 8 = i.opcode := by
  unfold decode at h
  split at h <;> cases h <;> (rename_i ho; exact ho)

/-- A run of k + 1 steps is one step and a run of k steps. -/
theorem run_succ_of_step {s t : State} (h : step s = .next t) (k : Nat) :
    Host.Core.run Sys2Proof.core (k + 1) s = Host.Core.run Sys2Proof.core k t := by
  have h' : Sys2Proof.core.step s = .next t := h
  simp only [Host.Core.run, h']

/-- A run of a + b steps is a run of a steps and then one of b. -/
theorem run_add {a : Nat} (b : Nat) {s t : State} (h : Host.Core.run Sys2Proof.core a s = .next t) :
    Host.Core.run Sys2Proof.core (a + b) s = Host.Core.run Sys2Proof.core b t := by
  induction a generalizing s with
  | zero => cases h; rw [Nat.zero_add]
  | succ a ih =>
    rw [Nat.add_right_comm]
    cases hs : step s with
    | next v => rw [run_succ_of_step hs] at h ⊢; exact ih h
    | fault f => nomatch f
    | refused r =>
      have h' : Sys2Proof.core.step s = .refused r := hs
      simp [Host.Core.run, h'] at h

end Sys2Proof.Machine
end

