-- ==== Sys2Proof/WellFormed.lean ====
section
/-! DEFINITION. Which commands are as the spec tells software to write them. The machine executes every command, well
formed or not (30_encoding.md R74, 70_reset_and_hazards.md R241; log 14): nothing in Machine/ asks for this check. -/

namespace Sys2Proof

/-- An operand of the given kind is legal, or, where it is ignored, written as 0x00 (30_encoding.md R71, R74, R76). -/
def OperandKind.accepts : OperandKind → Byte → Bool
  | .data, _ => true
  | .sequence, n => n != 0
  | .index, i => decide (i.toNat < 133)
  | .mask, _ => true
  | .ignored, x => x == 0

/-- The command is written as the spec tells software to write it: a legal sequence number, a PKT offset inside the
packet, an ignored operand of 0x00. -/
def Instr.wellFormed (i : Instr) : Bool := i.kind.accepts i.imm

end Sys2Proof
end

