-- ==== Sys2Proof/Tests/Slice0.lean ====
section
/-! SUPPORT. The model's own tests. Expected values are those of 95_test_vectors.md (their V- numbers), of the examples in
the command rules, or written out by hand from the rule named. Then the witnesses: for each statement with hypotheses, a
concrete state and operands that meet them. -/

namespace Sys2Proof.Tests

open Sys2Proof.Machine

/-! ### WellFormed: each check refuses an ill-formed term -/

theorem test_wf_refuses_sequence_zero : (Instr.seqSet 0).wellFormed = false ∧ (Instr.seqSet 1).wellFormed = true := by decide
theorem test_wf_refuses_index_133 : (Instr.rdPkt 133).wellFormed = false ∧ (Instr.rdPkt 132).wellFormed = true := by decide
theorem test_wf_refuses_nonzero_ignored_operand :
    (Instr.build 0xA5).wellFormed = false ∧ (Instr.build 0).wellFormed = true := by decide

/-! ### Decoding: words written out from 30_encoding.md R70 and R72 -/

theorem test_decode_nop : decode 0b0000000011110000 = .ok (.nop 0xF0) := by decide
theorem test_decode_crc_clr : decode 0b0000000100000000 = .ok (.crcClr 0x00) := by decide
theorem test_decode_crc_byte : decode 0b0000001000110001 = .ok (.crcByte 0x31) := by decide
theorem test_decode_crc_ldh : decode 0b0000001100010010 = .ok (.crcLdh 0x12) := by decide
theorem test_decode_crc_ldl : decode 0b0000010000110100 = .ok (.crcLdl 0x34) := by decide
theorem test_decode_pay_clr : decode 0b0001000000000000 = .ok (.payClr 0x00) := by decide
theorem test_decode_pay_put : decode 0b0001000101000001 = .ok (.payPut 0x41) := by decide
theorem test_decode_seq_set : decode 0b0010000011111111 = .ok (.seqSet 0xFF) := by decide
theorem test_decode_seq_adv : decode 0b0010000100000000 = .ok (.seqAdv 0x00) := by decide
theorem test_decode_build : decode 0b0011000000000000 = .ok (.build 0x00) := by decide
theorem test_decode_send : decode 0b0011000100000000 = .ok (.send 0x00) := by decide
theorem test_decode_rd_crc : decode 0b0100000000000000 = .ok (.rdCrc 0x00) := by decide
theorem test_decode_rd_stat : decode 0b0100000100000000 = .ok (.rdStat 0x00) := by decide
theorem test_decode_rd_seq : decode 0b0100001000000000 = .ok (.rdSeq 0x00) := by decide
theorem test_decode_rd_fill : decode 0b0100001100000000 = .ok (.rdFill 0x00) := by decide
theorem test_decode_rd_pkt : decode 0b0100010010000011 = .ok (.rdPkt 0x83) := by decide
theorem test_decode_err_clr : decode 0b0101000000000010 = .ok (.errClr 0x02) := by decide
theorem test_decode_srst : decode 0b0101111100000000 = .ok (.srst 0x00) := by decide
/-- V-ILL-01, V-ILL-03, V-ILL-04. -/
theorem test_decode_undefined :
    decode 0x0512 = .error (.undefinedOpcode 0x05) ∧ decode 0x4500 = .error (.undefinedOpcode 0x45) ∧
      decode 0x5E00 = .error (.undefinedOpcode 0x5E) := by decide
theorem test_decode_table_word : decodeTableWord 16 0x4483 = some (.rdPkt 0x83) ∧ decodeTableWord 16 0xFFFF = none := by decide
/-- Program P2's words in their stored form, OP first (30_encoding.md R70). -/
theorem test_load_program :
    loadProgram [0x10, 0x00, 0x11, 0x41, 0x30, 0x00] = .ok [.payClr 0, .payPut 0x41, .build 0] ∧
      loadProgram [0x10, 0x00, 0x11] = .error .truncated := by decide

/-! ### Pure functions -/

/-- V-CRC-02, V-CRC-05, V-CRC-07, V-CRC-09. -/
theorem test_crc_update : crcUpdate 0x0000 0x01 = 0x1021 ∧ crcUpdate 0xFFFF 0x00 = 0xE1F0 ∧
    crcUpdate 0x1234 0x56 = 0x3C40 ∧ crcUpdate 0x0001 0x00 = 0x0100 := by decide
/-- V-CRC-12, V-CRC-13 on the bitwise form. -/
theorem test_crc_update_bitwise : crcUpdateBitwise 0xABCD 0xAB = 0xCD00 ∧ crcUpdateBitwise 0x0000 0x31 = 0x2672 := by
  decide +kernel
/-- V-CRC-24. -/
theorem test_crc_of_check_string : crcOf [0x31, 0x32, 0x33, 0x34, 0x35, 0x36, 0x37, 0x38, 0x39] = 0x31C3 := by
  decide +kernel
/-- V-CRC-23 against V-FRM-02: the unpadded and the padded checksum of "ABC" (90_conflicts.md C2). -/
theorem test_crc_of_padding : crcOf [0x41, 0x42, 0x43] = 0x3994 ∧ crcOf (padChunk [0x41, 0x42, 0x43]) = 0x414B := by
  decide +kernel
/-- V-SEQ-03, V-SEQ-04; S1. -/
theorem test_sequence_functions : nextSeq 255 = 1 ∧ nextSeq 254 = 255 ∧ comp8 255 = 0 ∧ comp8 1 = 254 := by decide

/-! ### Commands, one step each -/

/-- The state a command leaves. -/
def after (i : Instr) (s : State) : State :=
  match exec i s with
  | .next t => t
  | .fault _ => s
  | .refused _ => s

/-- "ABC" loaded (41_framer.md R122's example). -/
def loadedABC : State :=
  { State.reset with pay := ((State.reset.pay.set 0 0x41).set 1 0x42).set 2 0x43, fill := 3 }

/-- The packet of 41_framer.md R122's example (V-FRM-02). -/
def packetABC : Vector Byte 133 :=
  ((#v[0x01, 0x01, 0xFE, 0x41, 0x42, 0x43] : Vector Byte 6) ++ Vector.replicate 125 (0x1A : Byte) ++
    (#v[0x41, 0x4B] : Vector Byte 2)).cast (by decide)

/-- It meets 10_state.md R35 item 3. -/
theorem test_packet_ok : PacketOk packetABC := by decide +kernel

/-- That packet framed. -/
def framedABC : State := { State.reset with pkt := packetABC, pktValid := true }

theorem test_nop : (after (.nop 0xFF) { State.reset with rdata := 0x1234 }).rdata = 0x1234 := by decide -- V-CTL-13
theorem test_crc_clr : (after (.crcClr 0xFF) { State.reset with crc := 0xBEEF }).crc = 0x0000 := by decide -- V-CRC-45
theorem test_crc_byte : (after (.crcByte 0x56) { State.reset with crc := 0x1234 }).crc = 0x3C40 := by decide -- V-CRC-44
theorem test_crc_ldh : (after (.crcLdh 0x12) { State.reset with crc := 0x00FF }).crc = 0x12FF := by decide -- V-CRC-42
theorem test_crc_ldl : (after (.crcLdl 0x34) { State.reset with crc := 0x12FF }).crc = 0x1234 := by decide -- V-CRC-43
theorem test_pay_clr : (after (.payClr 0x00) { framedABC with fill := 44 }).fill = 0 := by decide -- V-PAY-04
/-- V-PAY-01 and V-PAY-02. -/
theorem test_pay_put :
    (after (.payPut 0x41) State.reset).pay[0] = 0x41 ∧ (after (.payPut 0x41) State.reset).fill = 1 ∧
      (after (.payPut 0x00) { State.reset with fill := 127 }).stat.getLsbD 1 = true := by decide +kernel
/-- V-PAY-03. -/
theorem test_pay_put_full :
    (after (.payPut 0xFF) { State.reset with fill := 128 }).stat.getLsbD 9 = true ∧
      (after (.payPut 0xFF) { State.reset with fill := 128 }).fill = 128 := by decide
theorem test_seq_set : (after (.seqSet 0xFF) State.reset).seq = 255 := by decide -- V-SEQ-01
/-- V-SEQ-02. -/
theorem test_seq_set_zero :
    (after (.seqSet 0x00) { State.reset with seq := 7 }).seq = 7 ∧
      (after (.seqSet 0x00) { State.reset with seq := 7 }).stat.getLsbD 10 = true := by decide
theorem test_seq_adv : (after (.seqAdv 0x00) { State.reset with seq := 255 }).seq = 1 := by decide -- V-SEQ-03
/-- V-FRM-02. -/
theorem test_build : (after (.build 0x00) loadedABC).pkt = packetABC ∧ (after (.build 0x00) loadedABC).crc = 0x414B ∧
    (after (.build 0x00) loadedABC).stat = 0x0005 := by decide +kernel
/-- V-FRM-01 with sequence 255 (program P3). -/
theorem test_build_empty : (after (.build 0x00) { State.reset with seq := 255 }).pkt[2] = 0x00 ∧
    (after (.build 0x00) { State.reset with seq := 255 }).crc = 0xF8B0 := by decide +kernel
/-- V-TX-02: the bytes after those already in TXQ. -/
theorem test_send : (after (.send 0x00) { framedABC with txq := [0x99] }).txq = 0x99 :: packetABC.toList := by
  decide +kernel
/-- V-TX-01. -/
theorem test_send_no_packet : (after (.send 0x00) State.reset).txq = [] ∧
    (after (.send 0x00) State.reset).stat.getLsbD 11 = true := by decide
theorem test_rd_crc : (after (.rdCrc 0x00) { State.reset with crc := 0x31C3 }).rdata = 0x31C3 := by decide -- R152
/-- R153's example, and V-CTL-01. -/
theorem test_rd_stat :
    (after (.rdStat 0x00) { State.reset with pktValid := true, fill := 128, errs := 0b00010 }).rdata = 0x0203 ∧
      (after (.rdStat 0x00) State.reset).rdata = 0x0004 := by decide
theorem test_rd_seq : (after (.rdSeq 0x00) State.reset).rdata = 0x0001 := by decide -- V-CTL-02
theorem test_rd_fill : (after (.rdFill 0x00) { State.reset with fill := 44 }).rdata = 0x002C := by decide -- V-CTL-04
/-- V-CTL-06, V-CTL-07. -/
theorem test_rd_pkt : (after (.rdPkt 131) framedABC).rdata = 0x0041 ∧ (after (.rdPkt 132) framedABC).rdata = 0x004B := by
  decide +kernel
/-- V-CTL-08, V-CTL-09. -/
theorem test_rd_pkt_errors :
    (after (.rdPkt 133) framedABC).errs = 0b10000 ∧ (after (.rdPkt 200) State.reset).errs = 0b01000 := by decide
/-- V-CTL-10, V-CTL-11. -/
theorem test_err_clr :
    (after (.errClr 0x02) { State.reset with errs := 0b01010 }).stat = 0x0804 ∧
      (after (.errClr 0xE0) { State.reset with errs := 0b11111 }).stat = 0x1F04 := by decide
/-- V-CTL-12. -/
theorem test_srst :
    (after (.srst 0x00) { framedABC with seq := 7, errs := 1, rdata := 0x1234, txq := [5] }).HasResetValues ∧
      (after (.srst 0x00) { framedABC with seq := 7, errs := 1, rdata := 0x1234, txq := [5] }).txq = [5] := by decide

/-! ### Steps -/

/-- The state a step leaves. -/
def stepped (s : State) : State :=
  match step s with
  | .next t => t
  | .fault _ => s
  | .refused _ => s

/-- V-ILL-01, V-ILL-02. -/
theorem test_step_undefined : (stepped (State.reset.withFetchWord 16 0x0512)).stat = 0x0104 ∧
    (stepped ({ State.reset with rdata := 0x1234 }.withFetchWord 16 0xFFFF)).rdata = 0x1234 := by decide
theorem test_step_command : (stepped (State.reset.withFetchWord 16 0x0201)).crc = 0x1021 ∧
    (stepped (State.reset.withFetchWord 16 0x0201)).inputs = [] := by decide -- V-CRC-41
/-- R231: a word presented while reset is asserted has no effect. -/
theorem test_step_held_in_reset :
    (stepped { State.reset with resetLine := true, inputs := [.command 0x0201] }).crc = 0x0000 := by decide
theorem test_step_drain : (stepped { State.reset with txq := [1, 2, 3], inputs := [.drain 2] }).taken = [1, 2] ∧
    (stepped { State.reset with txq := [1, 2, 3], inputs := [.drain 2] }).txq = [3] := by decide -- R33
theorem test_step_sample : (stepped { State.reset with rdata := 0x31C3, inputs := [.sample] }).sampled = [0x31C3] := by decide -- R32

/-! ### Assembler (30_encoding.md R76, R77) -/

/-- Program P2's lines and words. -/
theorem test_assemble_p2 :
    assemble ["PAY_CLR".toList, "pay_put 'A' ; first".toList, "BUILD".toList, "SEQ_ADV ; host saw ACK".toList] =
      .ok [0x1000, 0x1141, 0x3000, 0x2100] := by decide +kernel
/-- CRC_LD16 of program P5, ERR_CLR of P4, FRAME of R77, and R76's `SEQ_SET 0`. -/
theorem test_assemble_pseudo :
    assemble ["CRC_LD16 0x20B5".toList, "ERR_CLR".toList, "FRAME 7, \"A\\x01\"".toList, "SEQ_SET 0".toList] =
      .ok [0x0320, 0x04B5, 0x501F, 0x2007, 0x1000, 0x1141, 0x1101, 0x3000, 0x2000] := by decide +kernel
/-- The assembler needs no blank before an operand (log 16). -/
theorem test_assemble_without_blank :
    assemble ["PAY_PUT'A';c".toList, "CRC_STR\"x\"".toList] = .ok [0x1141, 0x0278] ∧
      assemble ["PAY_PUT1".toList] = .error .unknownMnemonic := by decide +kernel
theorem test_assemble_errors :
    assemble ["PAY_PUT 256".toList] = .error .operandOutOfRange ∧ assemble ["NOP 1".toList] = .error .trailingText ∧
      assemble ["RD_PKT".toList] = .error .operandMissing := by decide +kernel

/-! ### Witnesses: states and operands that meet the statements' hypotheses -/

/-- UndefinedOpcodeSetsIllOnly: both ends of every range, and defined opcodes next to them. -/
theorem witness_undefined_op :
    (∀ op ∈ [0x05#8, 0x0F, 0x12, 0x1F, 0x22, 0x2F, 0x32, 0x3F, 0x45, 0x4F, 0x51, 0x5E, 0x60, 0xFF], undefinedOp op) ∧
      ∀ op ∈ [0x00#8, 0x04, 0x10, 0x11, 0x20, 0x21, 0x30, 0x31, 0x40, 0x44, 0x50, 0x5F], ¬ undefinedOp op := by decide
/-- EncodeOfDecodeGivesTheWordBack. -/
theorem witness_decoded_word : ∃ i, decode 0x5FFF = .ok i := ⟨_, rfl⟩
/-- IgnoredOperandBitsNeverMatter: two operands of one ignoring command, two masks alike in bits 4:0. -/
theorem witness_ignored_bits :
    (Instr.nop 0x00).kind = .ignored ∧ (Instr.nop 0x00).opcode = (Instr.nop 0xFF).opcode ∧
      ∀ k < 5, (0x02 : Byte).getLsbD k = (0xE2 : Byte).getLsbD k := by decide

/-- A state with one command waiting. -/
def waiting (w : Word) : State := { State.reset with inputs := [.command w] }

/-- StepRunsTheDecodedCommand. -/
theorem witness_step_runs :
    (waiting 0x3000).inputs = .command 0x3000 :: [] ∧ (waiting 0x3000).resetLine = false ∧
      decode 0x3000 = .ok (.build 0x00) := by decide
/-- IdleStepHoldsTheState. -/
theorem witness_idle : State.reset.inputs = [] := rfl
/-- ResetInputHoldsAndResets: a word held in reset, an assertion, a release with a word after it. -/
theorem witness_reset_input :
    ({ waiting 0x3000 with resetLine := true }.inputs = .command 0x3000 :: [] ∧
      { waiting 0x3000 with resetLine := true }.resetLine = true) ∧
    { framedABC with inputs := [.reset true] }.inputs = .reset true :: [] ∧
    ({ framedABC with resetLine := true, inputs := [.reset false, .command 0x4100] }.inputs =
        .reset false :: [.command 0x4100] ∧
      { framedABC with resetLine := true, inputs := [.reset false, .command 0x4100] }.resetLine = true) := by decide
/-- SampleAndDrainChangeNoRegister: a sample, and drains of no byte, some and more than there are. -/
theorem witness_sample_and_drain :
    { State.reset with inputs := [.sample] }.inputs = .sample :: [] ∧
    { State.reset with txq := [1, 2], inputs := [.drain 0] }.inputs = .drain 0 :: [] ∧
    { State.reset with txq := [1, 2], inputs := [.drain 3] }.inputs = .drain 3 :: [] := by decide
/-- ObservationIsThatOfTheSteps: reset released, and a read among the words. -/
theorem witness_observation :
    State.reset.resetLine = false ∧ ([0x0201, 0x4000, 0x0100] : List Word) = [0x0201] ++ 0x4000 :: [0x0100] ∧
      isReadWord 0x4000 = true := by decide
/-- PayPutStoresAtFill: FILL = 128, and FILL = 0 and 127 below it. -/
theorem witness_pay_put :
    ({ State.reset with fill := 128 }.fill.toNat ≤ 128 ∧ { State.reset with fill := 128 }.fill.toNat = 128) ∧
    ({ State.reset with fill := 127 }.fill.toNat ≤ 128 ∧ { State.reset with fill := 127 }.fill.toNat < 128) ∧
    State.reset.fill.toNat < 128 := by decide
/-- SeqSetWritesSeqOrSetsSeq0: operands 0, 1 and 255. -/
theorem witness_seq_set : (0x00 : Byte).toNat = 0 ∧ 1 ≤ (0x01 : Byte).toNat ∧ 1 ≤ (0xFF : Byte).toNat := by decide
/-- SeqAdvWritesTheSuccessor: SEQ = 1, 254 and 255. -/
theorem witness_seq_adv :
    1 ≤ State.reset.seq.toNat ∧ { State.reset with seq := 254 }.seq.toNat = 254 ∧
      { State.reset with seq := 255 }.seq.toNat = 255 := by decide
/-- SeqAdvCyclesThrough255Values. -/
theorem witness_seq_cycle : State.reset.seq.toNat = 1 := by decide
/-- BuildFramesThePayload: FILL = 0 and 128. -/
theorem witness_build :
    State.reset.fill.toNat ≤ 128 ∧ { State.reset with fill := 128 }.fill.toNat = 128 := by decide
/-- SendEmitsThePacket, and RdPktReadsOneByteOrReports at the operands 132, 133 and 255. -/
theorem witness_packet_cases :
    framedABC.pktValid = true ∧ State.reset.pktValid = false ∧ (132 : Byte).toNat < 133 ∧ 133 ≤ (133 : Byte).toNat ∧
      133 ≤ (255 : Byte).toNat := by decide
/-- FramingAChunkLeavesItsFrame: a chunk of 128 bytes, and the empty chunk, as words on the port. -/
theorem witness_framing_a_chunk :
    ∀ ch ∈ [List.replicate 128 (0xFF : Byte), []],
      ∃ s : State, ch.length ≤ 128 ∧ s.resetLine = false ∧
        s.inputs = (frameChunk ch).map (fun i => HostAction.command (encode i)) ++ [] := by
  intro ch hch
  refine ⟨{ State.reset with inputs := (frameChunk ch).map (fun i => HostAction.command (encode i)) ++ [] }, ?_, rfl, rfl⟩
  revert ch
  decide +kernel
/-- RetryEmitsTheIdenticalFrame: the longest chunk, SEQ = 255. -/
theorem witness_retry :
    (List.replicate 128 (0xFF : Byte)).length ≤ 128 ∧ 1 ≤ { State.reset with seq := 255 }.seq.toNat := by
  decide +kernel
/-- FramedPacketSurvivesOtherCommands (V-TX-04). -/
theorem witness_snapshot :
    (∀ i ∈ [Instr.payPut 0x5A, .seqAdv 0x00], i.opcode ≠ 0x30 ∧ i.opcode ≠ 0x5F) ∧
      ∃ t, execAll [.payPut 0x5A, .seqAdv 0x00] framedABC = .next t := ⟨by decide, ⟨_, rfl⟩⟩
/-- SecondBuildFramesFillerBytes: SEND, SEQ_ADV and an undefined word between the two, and nothing between. -/
theorem witness_second_build :
    ∀ ws ∈ [[0x3100, 0x2100, 0x1200], ([] : List Word)],
      ∃ s : State, (∀ w ∈ ws, w.extractLsb' 8 8 ≠ 0x11) ∧ s.resetLine = false ∧
        s.inputs = (encode (.build 0xA5) :: ws ++ [encode (.build 0x00)]).map HostAction.command ++ [.sample] := by
  intro ws hws
  refine ⟨{ State.reset with
    inputs := (encode (.build 0xA5) :: ws ++ [encode (.build 0x00)]).map HostAction.command ++ [.sample] }, ?_, rfl, rfl⟩
  revert ws
  simp
/-- RdStatReadsEveryStatusBit: the ends of its three ranges of bits lie apart. -/
theorem witness_stat_ranges :
    (3 ≤ 3 ∧ 7 ≤ 7) ∧ (8 ≤ 8 ∧ 12 ≤ 12) ∧ (13 ≤ 13 ∧ 15 ≤ 15) ∧ (0 < 5 ∧ 4 < 5) := by decide
/-- EveryStepKeepsTheInvariants: a framed packet, about to be sent. -/
theorem witness_invariants :
    { framedABC with inputs := [.command 0x3100] }.Inv ∧ ∃ t, step { framedABC with inputs := [.command 0x3100] } = .next t :=
  ⟨by decide +kernel, ⟨_, rfl⟩⟩
/-- EmittedBytesAreWholeWellFormedPackets: the same, with the packet emitted once already. -/
theorem witness_stream :
    { framedABC with txq := packetABC.toList, inputs := [.command 0x3100] }.Inv ∧
    { framedABC with txq := packetABC.toList, inputs := [.command 0x3100] }.StreamOk ∧
    ∃ t, step { framedABC with txq := packetABC.toList, inputs := [.command 0x3100] } = .next t :=
  ⟨by decide +kernel, ⟨[packetABC], List.forall_mem_singleton.mpr test_packet_ok, by decide +kernel⟩, ⟨_, rfl⟩⟩
/-- OnlySendExtendsTheOutput: a step that emits and one that does not. -/
theorem witness_output :
    (∃ t, step { framedABC with inputs := [.command 0x3100] } = .next t) ∧ ∃ t, step (waiting 0x0000) = .next t :=
  ⟨⟨_, rfl⟩, ⟨_, rfl⟩⟩
/-- OnlyBuildAndSrstWriteThePacket: each of its three cases. -/
theorem witness_packet_writers :
    (∃ t, execWord 0x0000 framedABC = .next t) ∧ (∃ t, execWord 0x3000 framedABC = .next t) ∧
      ∃ t, execWord 0x5F00 framedABC = .next t := ⟨⟨_, rfl⟩, ⟨_, rfl⟩, ⟨_, rfl⟩⟩
/-- OnlyReadsAndSrstWriteRdata: a read, and SRST, that change RDATA. -/
theorem witness_rdata_changes :
    (∃ t, execWord 0x4200 State.reset = .next t ∧ t.rdata ≠ State.reset.rdata) ∧
      ∃ t, execWord 0x5F00 { State.reset with rdata := 0x1234 } = .next t ∧ t.rdata ≠ 0x1234 :=
  ⟨⟨_, rfl, by decide⟩, ⟨_, rfl, by decide⟩⟩
/-- ErrorBitsStayUntilCleared: the lowest bit cleared by ERR_CLR, the highest by SRST. -/
theorem witness_error_cleared :
    (∃ t, execWord 0x5001 { State.reset with errs := 0b00001 } = .next t ∧ t.errs.getLsbD 0 = false) ∧
      ∃ t, execWord 0x5F00 { State.reset with errs := 0b10000 } = .next t ∧ t.errs.getLsbD 4 = false :=
  ⟨⟨_, rfl, by decide⟩, ⟨_, rfl, by decide⟩⟩
/-- ErrorBitsSetOnlyByTheirConditions: each of the five bits set from 0. -/
theorem witness_error_set :
    (∃ t, execWord 0x0500 State.reset = .next t ∧ t.errs.getLsbD 0 = true) ∧
    (∃ t, execWord 0x1100 { State.reset with fill := 128 } = .next t ∧ t.errs.getLsbD 1 = true) ∧
    (∃ t, execWord 0x2000 State.reset = .next t ∧ t.errs.getLsbD 2 = true) ∧
    (∃ t, execWord 0x44FF State.reset = .next t ∧ t.errs.getLsbD 3 = true) ∧
    ∃ t, execWord 0x4485 framedABC = .next t ∧ t.errs.getLsbD 4 = true :=
  ⟨⟨_, rfl, by decide⟩, ⟨_, rfl, by decide⟩, ⟨_, rfl, by decide⟩, ⟨_, rfl, by decide⟩, ⟨_, rfl, by decide⟩⟩
/-- ReadsAreIdempotent: a read that succeeds and one that reports an error. -/
theorem witness_reads :
    ((Instr.rdPkt 132).isRead = true ∧ ∃ t, exec (.rdPkt 132) framedABC = .next t) ∧
      ((Instr.rdPkt 133).isRead = true ∧ ∃ t, exec (.rdPkt 133) framedABC = .next t) :=
  ⟨⟨rfl, ⟨_, rfl⟩⟩, ⟨rfl, ⟨_, rfl⟩⟩⟩
/-- UnspecifiedBytesAreNeverObserved: two different states that agree on what can be observed, about to BUILD. -/
theorem witness_same_observable :
    waiting 0x3000 ≠ { waiting 0x3000 with pay := Vector.replicate 128 0xFF, pkt := Vector.replicate 133 0xFF } ∧
    SameObservable (waiting 0x3000)
      { waiting 0x3000 with pay := Vector.replicate 128 0xFF, pkt := Vector.replicate 133 0xFF } ∧
    ∃ t, step (waiting 0x3000) = .next t :=
  ⟨by decide +kernel,
   ⟨rfl, rfl, rfl, fun _ _ h => absurd h (Nat.not_lt_zero _), rfl, fun h => Bool.noConfusion h, rfl, rfl, rfl, rfl, rfl,
     rfl, rfl⟩,
   ⟨_, rfl⟩⟩

end Sys2Proof.Tests
end

namespace Sys2Proof.Machine

/-! ### Undefined opcodes (30_encoding.md R73): the decoder refuses a word exactly when its OP is in the listed ranges -/

theorem not_undefinedOp_opcode (i : Instr) : ¬ undefinedOp i.opcode := by
  cases i <;> (rw [Instr.opcode]; decide)

theorem undefinedOp_of_decode_error {w : Word} {e : DecodeError} (h : decode w = .error e) :
    undefinedOp (w.extractLsb' 8 8) := by
  change undefinedOp (opField w)
  unfold decode at h
  split at h
  -- every row of the map decodes; in the last branch OP differs from each of the 18 opcodes
  case h_19 =>
    simp only [imp_false, undefinedOp] at *
    bv_omega
  all_goals cases h

/-- The decoder's two outcomes, told apart by OP alone. -/
theorem exists_decode_ok_iff (w : Word) : (∃ i, decode w = .ok i) ↔ ¬ undefinedOp (w.extractLsb' 8 8) := by
  constructor
  · rintro ⟨i, hd⟩
    rw [opcode_of_decode hd]
    exact not_undefinedOp_opcode i
  · intro hop
    cases hd : decode w with
    | ok i => exact ⟨i, rfl⟩
    | error e => exact absurd (undefinedOp_of_decode_error hd) hop

/-- An undefined OP raises E_ILL and nothing else (60_exceptions.md R201). -/
theorem execWord_of_undefinedOp {w : Word} (hop : undefinedOp (w.extractLsb' 8 8)) (s : State) :
    execWord w s = .next (s.raise .ill) := by
  cases hd : decode w with
  | ok i => exact absurd hop ((exists_decode_ok_iff w).mp ⟨i, hd⟩)
  | error e => simp only [execWord, hd]

/-- R73's ranges hold 238 of the 256 OP values, which leaves the 18 of R72. -/
theorem undefinedOp_count :
    ((List.range 256).filter fun n => decide (undefinedOp (BitVec.ofNat 8 n))).length = 238 := by
  decide +kernel

/-- Settles O3: the decoder's outcome depends on OP alone (`exists_decode_ok_iff`), and its refusal raises E_ILL. -/
theorem undefinedOpcodeSetsIllOnly : Obligations.UndefinedOpcodeSetsIllOnly :=
  ⟨fun _ s hop => execWord_of_undefinedOp hop s, fun w => (exists_decode_ok_iff w).mpr, undefinedOp_count⟩

open Laws in
/-- Settles O2: OP joined to IMM is the encoding of the command, so each row is its round trip. -/
theorem opcodeMapDecodes : Obligations.OpcodeMapDecodes := fun b =>
  ⟨RoundTrip.nop b, RoundTrip.crcClr b, RoundTrip.crcByte b, RoundTrip.crcLdh b, RoundTrip.crcLdl b,
    RoundTrip.payClr b, RoundTrip.payPut b, RoundTrip.seqSet b, RoundTrip.seqAdv b, RoundTrip.build b,
    RoundTrip.send b, RoundTrip.rdCrc b, RoundTrip.rdStat b, RoundTrip.rdSeq b, RoundTrip.rdFill b,
    RoundTrip.rdPkt b, RoundTrip.errClr b, RoundTrip.srst b⟩

end Sys2Proof.Machine

namespace Sys2Proof.Machine

/-! ### The update function on natural numbers (40_crc.md R101)

A bit-vector shift drops the bits above the width at once; the rule's natural numbers keep them until the step's mask.
The two lemmas say that one mask after the whole step is the same, for the two forms a masked step has. -/

theorem toNat_or_shiftLeft {w : Nat} (x y : BitVec w) (i : Nat) :
    (x ||| y <<< i).toNat = (x.toNat ||| y.toNat <<< i) % 2 ^ w := by
  rw [BitVec.toNat_or, BitVec.toNat_shiftLeft, Nat.or_mod_two_pow, Nat.mod_eq_of_lt x.isLt]

theorem toNat_xor_shiftLeft_shiftLeft {w : Nat} (x y : BitVec w) (i j : Nat) :
    (x ^^^ (y <<< i) <<< j).toNat = (x.toNat ^^^ (y.toNat <<< i) <<< j) % 2 ^ w := by
  rw [← BitVec.shiftLeft_add, ← Nat.shiftLeft_add, BitVec.toNat_xor, BitVec.toNat_shiftLeft, Nat.xor_mod_two_pow,
    Nat.mod_eq_of_lt x.isLt]

/-- Settles O14: the steps are unfolded from the last to the first. Steps 5 and 4 are a masked xor, steps 3 and 2 a xor
that needs no mask, and step 1 is the masked byte swap. -/
theorem crcUpdateIsTheMaskedArithmetic : Obligations.CrcUpdateIsTheMaskedArithmetic := by
  intro s b
  have hb : (b.setWidth 16).toNat = b.toNat := BitVec.toNat_setWidth_of_le (by decide)
  simp only [crcUpdate, crcUpdateNat, toNat_xor_shiftLeft_shiftLeft, BitVec.toNat_and, BitVec.reduceToNat]
  simp only [BitVec.toNat_xor, BitVec.toNat_and, BitVec.toNat_ushiftRight, BitVec.natCast_eq_ofNat,
    BitVec.reduceToNat, hb, toNat_or_shiftLeft]

/-! ### Chaining (40_crc.md R103, R104) -/

theorem crcOf_eq_crcFold_zero (bs : List Byte) : crcOf bs = crcFold 0x0000 bs := rfl

/-- Settles O16: the two equations of the fold, and its start from CRC_INIT. -/
theorem crcOfChainsFromZero : Obligations.CrcOfChainsFromZero :=
  ⟨crcFold_nil, crcFold_cons, crcOf_eq_crcFold_zero⟩

/-! ### The CRC commands (40_crc.md R105 to R108): each is one write of CRC, so the rest of the state is kept -/

section Commands
variable (s : State)

@[simp] theorem exec_crcClr (x : Byte) : exec (.crcClr x) s = .next (s.setCrc Config.crcInit) := rfl

@[simp] theorem exec_crcByte (d : Byte) : exec (.crcByte d) s = .next (s.setCrc (crcUpdate s.crc d)) := rfl

@[simp] theorem exec_crcLdh (d : Byte) : exec (.crcLdh d) s = .next (s.setCrc (pair d (lo8 s.crc))) := rfl

@[simp] theorem exec_crcLdl (d : Byte) : exec (.crcLdl d) s = .next (s.setCrc (pair (hi8 s.crc) d)) := rfl

end Commands

/-- Settles O21: the write is of CRC_INIT, whatever the operand. -/
theorem crcClrWritesZero : Obligations.CrcClrWritesZero :=
  fun x s => exec_crcClr s x

/-- Settles O22: the write is of one update by the operand. -/
theorem crcByteFeedsOneByte : Obligations.CrcByteFeedsOneByte :=
  fun d s => exec_crcByte s d

/-- Settles O23: each load pairs the operand with the byte of CRC that it keeps. -/
theorem crcLoadsWriteOneByte : Obligations.CrcLoadsWriteOneByte :=
  fun d s => ⟨exec_crcLdh s d, exec_crcLdl s d⟩

end Sys2Proof.Machine

namespace Sys2Proof.Machine

/-! ### The framer commands (41_framer.md R121 to R128): each branch of a command is one operation on the state -/

section Commands
variable (s : State)

@[simp] theorem exec_payClr (x : Byte) : exec (.payClr x) s = .next s.clearPay := rfl

@[simp] theorem exec_seqAdv (x : Byte) : exec (.seqAdv x) s = .next (s.setSeq (nextSeq s.seq)) := rfl

@[simp] theorem exec_build (x : Byte) : exec (.build x) s = .next (s.loadPacket s.payload) := rfl

variable {s}

theorem exec_payPut_of_full (d : Byte) (h : s.fill.toNat = 128) : exec (.payPut d) s = .next (s.raise .ovf) :=
  if_pos ((fill_eq_full_iff s).mpr h)

theorem exec_payPut_of_not_full (d : Byte) (h : s.fill.toNat ≠ 128) : exec (.payPut d) s = .next (s.putPay d) :=
  if_neg (mt (fill_eq_full_iff s).mp h)

theorem exec_send_of_pktValid (x : Byte) (h : s.pktValid = true) :
    exec (.send x) s = .next (s.emit s.pkt.toList) :=
  if_pos h

theorem exec_send_of_not_pktValid (x : Byte) (h : s.pktValid = false) :
    exec (.send x) s = .next (s.raise .nopkt) :=
  if_neg (ne_true_of_eq_false h)

variable (s)

theorem exec_seqSet_of_zero {n : Byte} (h : n = 0) : exec (.seqSet n) s = .next (s.raise .seq0) := if_pos h

theorem exec_seqSet_of_ne_zero {n : Byte} (h : n ≠ 0) : exec (.seqSet n) s = .next (s.setSeq n) := if_neg h

end Commands

/-! ### The three computed bits of STAT (10_state.md R28, R29) -/

theorem stat_bit0 (s : State) : s.stat.getLsbD 0 = s.pktValid := stat_getLsbD s 0

theorem stat_bit1 (s : State) : s.stat.getLsbD 1 = decide (s.fill.toNat = 128) :=
  (stat_getLsbD s 1).trans (payFull_eq s)

theorem stat_bit2 (s : State) : s.stat.getLsbD 2 = decide (s.fill.toNat = 0) :=
  (stat_getLsbD s 2).trans (payEmpty_eq s)

/-- With FILL = 0 the buffer reads as empty and not full. -/
theorem stat_of_fill_zero {s : State} (h : s.fill = 0) :
    s.stat.getLsbD 1 = false ∧ s.stat.getLsbD 2 = true := by
  rw [stat_bit1, stat_bit2, h]
  decide

/-! ### The payload buffer (41_framer.md R121) -/

/-- While a byte fits, the count that PAY_PUT adds one to does not wrap. -/
theorem putPay_fill_toNat {s : State} (d : Byte) (h : s.fill.toNat < 128) :
    (s.putPay d).fill.toNat = s.fill.toNat + 1 := by
  rw [State.putPay_fill]
  bv_omega

theorem putPay_pay_getElem (s : State) (d : Byte) (i : Nat) (h : i < 128) :
    (s.putPay d).pay[i] = if i = s.fill.toNat then d else s.pay[i] := by
  simp only [State.putPay_pay, Vector.getElem_setIfInBounds, eq_comm]

/-- Settles O25: the guard of each clause picks the branch, and `putPay` writes the byte that FILL counts to. -/
theorem payPutStoresAtFill : Obligations.PayPutStoresAtFill := by
  intro d s _
  refine ⟨exec_payPut_of_full d, fun h => ⟨s.putPay d, exec_payPut_of_not_full d h.ne, ?_⟩⟩
  have hfill := putPay_fill_toNat d h
  have hempty : (s.putPay d).stat.getLsbD 2 = false := by
    rw [stat_bit2, hfill]
    exact decide_eq_false (Nat.succ_ne_zero _)
  exact ⟨hfill, putPay_pay_getElem s d, stat_bit1 _, hempty, rfl⟩

/-- Settles O26: the one write is of FILL, and STAT follows it. -/
theorem payClrEmptiesThePayload : Obligations.PayClrEmptiesThePayload :=
  fun x s => ⟨s.clearPay, exec_payClr s x, rfl, stat_of_fill_zero s.clearPay_fill⟩

/-! ### The sequence number (41_framer.md R124 to R126) -/

theorem nextSeq_toNat (n : Byte) : (nextSeq n).toNat = if n.toNat = 255 then 1 else n.toNat + 1 := by
  revert n
  decide

/-- Settles O27: the operand is 0 or not, and each case is one write. -/
theorem seqSetWritesSeqOrSetsSeq0 : Obligations.SeqSetWritesSeqOrSetsSeq0 := by
  intro n s
  constructor
  · intro h
    exact exec_seqSet_of_zero s (BitVec.eq_of_toNat_eq h)
  · intro h
    exact exec_seqSet_of_ne_zero s (by rintro rfl; exact absurd h (by decide))

/-- Settles O28: the one write is of the successor, whose value is `nextSeq_toNat`. -/
theorem seqAdvWritesTheSuccessor : Obligations.SeqAdvWritesTheSuccessor :=
  fun x s _ => ⟨s.setSeq (nextSeq s.seq), exec_seqAdv s x, nextSeq_toNat s.seq, rfl⟩

/-! ### The packet's bytes (41_framer.md R122, 20_memory.md R53), by their offset -/

section Packet
variable (n : Byte) (p : Vector Byte 128)

theorem framePacket_header (i : Nat) (h : i < 3) :
    (framePacket n p)[i] = [Config.soh, n, comp8 n][i] := by
  apply Option.some.inj
  rw [← Vector.getElem?_eq_getElem, framePacket_getElem?, List.append_assoc, List.getElem?_append_left h,
    List.getElem?_eq_getElem]

theorem framePacket_payload_getElem? (i : Nat) (h : i < 128) : (framePacket n p)[3 + i]? = some p[i] := by
  have hlen : 3 + i < ([Config.soh, n, comp8 n] ++ p.toList).length := by
    rw [List.length_append, Vector.length_toList]
    exact Nat.add_lt_add_left h 3
  rw [framePacket_getElem?, List.getElem?_append_left hlen, List.getElem?_append_right (by simp)]
  simp [h]

theorem framePacket_checksum (i : Nat) (h : i < 2) :
    (framePacket n p)[131 + i] = [hi8 (crcOf p.toList), lo8 (crcOf p.toList)][i] := by
  apply Option.some.inj
  rw [← Vector.getElem?_eq_getElem, framePacket_getElem?, List.getElem?_append_right (by simp)]
  simp [h]

end Packet

/-- Settles O30: the packet is read by its parts, header, payload (`payload_getElem` is the padding) and checksum. -/
theorem buildFramesThePayload : Obligations.BuildFramesThePayload := by
  intro x s _
  have hcrc : (s.loadPacket s.payload).crc = crcOf (((s.loadPacket s.payload).pkt.toList.drop 3).take 128) := by
    simp only [State.loadPacket_crc, State.loadPacket_pkt, framePacket_payload]
  have hpay (i : Nat) (h : i < 128) :
      (s.loadPacket s.payload).pkt[3 + i]? = some (if i < s.fill.toNat then s.pay[i] else 0x1A) := by
    rw [State.loadPacket_pkt, framePacket_payload_getElem? _ _ i h, payload_getElem]
    rfl
  have hcomp : (s.loadPacket s.payload).pkt[2].toNat = 255 - s.seq.toNat := by
    rw [← comp8_toNat]
    exact congrArg BitVec.toNat (framePacket_header s.seq s.payload 2 (by decide))
  obtain ⟨hfull, hempty⟩ := stat_of_fill_zero (s.loadPacket_fill s.payload)
  exact ⟨s.loadPacket s.payload, exec_build s x, framePacket_header _ _ 0 (by decide),
    framePacket_header _ _ 1 (by decide), hcomp, hpay, hcrc, framePacket_checksum _ _ 0 (by decide),
    framePacket_checksum _ _ 1 (by decide), rfl, rfl, stat_bit0 _, hfull, hempty, rfl⟩

/-- Settles O31: PKT_VALID picks the branch, and `emit` appends the list of PKT's bytes whole. -/
theorem sendEmitsThePacket : Obligations.SendEmitsThePacket := by
  intro x s
  refine ⟨fun h => ?_, exec_send_of_not_pktValid x⟩
  exact ⟨s.emit s.pkt.toList, exec_send_of_pktValid x h, s.emit_txq _, Vector.length_toList, rfl⟩

end Sys2Proof.Machine

namespace Sys2Proof.Machine

/-! ### The control and read-back commands (42_control.md R151 to R158): each branch is one operation on the state -/

section Commands
variable (s : State)

@[simp] theorem exec_nop (x : Byte) : exec (.nop x) s = .next s := rfl

@[simp] theorem exec_rdCrc (x : Byte) : exec (.rdCrc x) s = .next (s.setRdata s.crc) := rfl

@[simp] theorem exec_rdStat (x : Byte) : exec (.rdStat x) s = .next (s.setRdata s.stat) := rfl

@[simp] theorem exec_rdSeq (x : Byte) : exec (.rdSeq x) s = .next (s.setRdata (zext16 s.seq)) := rfl

@[simp] theorem exec_rdFill (x : Byte) : exec (.rdFill x) s = .next (s.setRdata (zext16 s.fill)) := rfl

@[simp] theorem exec_errClr (m : Byte) : exec (.errClr m) s = .next (s.clearErrors (maskBits m)) := rfl

@[simp] theorem exec_srst (x : Byte) : exec (.srst x) s = .next s.resetRegisters := rfl

variable {s} {k : Byte}

theorem exec_rdPkt_of_not_pktValid (h : s.pktValid = false) :
    exec (.rdPkt k) s = .next ((s.raise .nopkt).setRdata 0x0000) :=
  if_neg (ne_true_of_eq_false h)

theorem exec_rdPkt_of_ge (hv : s.pktValid = true) (h : 133 ≤ k.toNat) :
    exec (.rdPkt k) s = .next ((s.raise .range).setRdata 0x0000) :=
  (if_pos hv).trans (dif_neg h.not_gt)

theorem exec_rdPkt_of_lt (hv : s.pktValid = true) (h : k.toNat < 133) :
    exec (.rdPkt k) s = .next (s.setRdata (zext16 s.pkt[k.toNat])) :=
  (if_pos hv).trans (dif_pos h)

end Commands

theorem zext16_toNat (b : Byte) : (zext16 b).toNat = b.toNat :=
  BitVec.toNat_setWidth_of_le (by decide)

/-! ### The stored and the reserved bits of STAT (10_state.md R28, R31) -/

theorem stat_low_reserved (s : State) {k : Nat} (h3 : 3 ≤ k) (h7 : k ≤ 7) : s.stat.getLsbD k = false := by
  rw [stat_getLsbD, if_neg (by omega), if_neg (by omega), if_neg (by omega), if_pos (by omega)]

theorem stat_of_ge_eight (s : State) {k : Nat} (h : 8 ≤ k) : s.stat.getLsbD k = s.errs.getLsbD (k - 8) := by
  rw [stat_getLsbD, if_neg (by omega), if_neg (by omega), if_neg (by omega), if_neg (by omega)]

/-- There are five error bits, so STAT has nothing above bit 12. -/
theorem stat_high_reserved (s : State) {k : Nat} (h : 13 ≤ k) : s.stat.getLsbD k = false := by
  rw [stat_of_ge_eight s (by omega)]
  exact BitVec.getLsbD_of_ge _ _ (by omega)

/-- With no payload, no packet and no error, PAY_EMPTY is the only bit set (70_reset_and_hazards.md R230). -/
theorem resetRegisters_stat (s : State) : s.resetRegisters.stat = 0x0004 := by
  rw [State.stat, payEmpty_eq, payFull_eq, s.resetRegisters_fill, s.resetRegisters_errs, s.resetRegisters_pktValid]
  rfl

theorem resetRegisters_hasResetValues (s : State) : s.resetRegisters.HasResetValues :=
  ⟨s.resetRegisters_crc, s.resetRegisters_seq, s.resetRegisters_fill, s.resetRegisters_pktValid,
    s.resetRegisters_errs, resetRegisters_stat s, s.resetRegisters_rdata⟩

/-- Settles O38: RDATA takes `State.stat`, which is read range by range. -/
theorem rdStatReadsEveryStatusBit : Obligations.RdStatReadsEveryStatusBit := fun x s =>
  ⟨s.setRdata s.stat, exec_rdStat s x, rfl, stat_bit0 s, stat_bit1 s, stat_bit2 s,
    fun _ h3 h7 => stat_low_reserved s h3 h7, fun _ h8 _ => stat_of_ge_eight s h8,
    fun _ h13 _ => stat_high_reserved s h13⟩

/-- Settles O36: the operand is not used. -/
theorem nopChangesNothing : Obligations.NopChangesNothing :=
  fun x s => exec_nop s x

/-- Settles O37: the one write is of RDATA, and zero extension keeps the value. -/
theorem registerReadsWriteRdata : Obligations.RegisterReadsWriteRdata := fun x s =>
  ⟨exec_rdCrc s x, ⟨s.setRdata (zext16 s.seq), exec_rdSeq s x, zext16_toNat s.seq, rfl⟩,
    ⟨s.setRdata (zext16 s.fill), exec_rdFill s x, zext16_toNat s.fill, rfl⟩⟩

/-- Settles O39: PKT_VALID is tested first, and then the index; each case writes RDATA. -/
theorem rdPktReadsOneByteOrReports : Obligations.RdPktReadsOneByteOrReports := by
  intro k s
  refine ⟨exec_rdPkt_of_not_pktValid, exec_rdPkt_of_ge, fun hv h => ?_⟩
  exact ⟨s.setRdata (zext16 s.pkt[k.toNat]), exec_rdPkt_of_lt hv h, zext16_toNat _, rfl⟩

/-- Settles O40: the five low bits of the operand are the mask, and a masked bit is cleared. -/
theorem errClrClearsSelectedBits : Obligations.ErrClrClearsSelectedBits := by
  intro m s
  refine ⟨s.clearErrors (maskBits m), exec_errClr s m, rfl, fun k hk => ?_⟩
  rw [clearErrors_errs_getLsbD, maskBits_getLsbD, decide_eq_true hk, Bool.true_and]

/-- Settles O41: SRST is the reset of the registers, which has no write to TXQ or to the host's side. -/
theorem srstLeavesResetValues : Obligations.SrstLeavesResetValues := fun x s =>
  ⟨s.resetRegisters, exec_srst s x, resetRegisters_hasResetValues s, s.resetRegisters_txq,
    s.resetRegisters_resetLine, s.resetRegisters_inputs, s.resetRegisters_taken, s.resetRegisters_sampled⟩

end Sys2Proof.Machine

namespace Sys2Proof.Machine

/-! ### The decoder and the encoder (30_encoding.md R70, R72): OP names the command, IMM is its operand -/

open Laws in
theorem decode_encode (i : Instr) : decode (encode i) = .ok i :=
  match i with
  | .nop x => RoundTrip.nop x
  | .crcClr x => RoundTrip.crcClr x
  | .crcByte d => RoundTrip.crcByte d
  | .crcLdh d => RoundTrip.crcLdh d
  | .crcLdl d => RoundTrip.crcLdl d
  | .payClr x => RoundTrip.payClr x
  | .payPut d => RoundTrip.payPut d
  | .seqSet n => RoundTrip.seqSet n
  | .seqAdv x => RoundTrip.seqAdv x
  | .build x => RoundTrip.build x
  | .send x => RoundTrip.send x
  | .rdCrc x => RoundTrip.rdCrc x
  | .rdStat x => RoundTrip.rdStat x
  | .rdSeq x => RoundTrip.rdSeq x
  | .rdFill x => RoundTrip.rdFill x
  | .rdPkt k => RoundTrip.rdPkt k
  | .errClr m => RoundTrip.errClr m
  | .srst x => RoundTrip.srst x

/-- The operand of the command that a word decodes to is the word's IMM, beside `opcode_of_decode`. -/
theorem imm_of_decode {w : Word} {i : Instr} (h : decode w = .ok i) : immField w = i.imm := by
  unfold decode at h
  split at h <;> cases h <;> rfl

theorem encode_of_decode {w : Word} {i : Instr} (h : decode w = .ok i) : encode i = w := by
  have hop : opField w = i.opcode := opcode_of_decode h
  rw [encode, ← hop, ← imm_of_decode h, opField_append_immField]

/-- Settles O4: the round trips of the 18 commands. -/
theorem decodeOfEncodeGivesTheCommandBack : Obligations.DecodeOfEncodeGivesTheCommandBack :=
  decode_encode

/-- Settles O5: the two fields of the word are the opcode and the operand that `encode` joins. -/
theorem encodeOfDecodeGivesTheWordBack : Obligations.EncodeOfDecodeGivesTheWordBack :=
  fun _ _ h => encode_of_decode h

/-- Settles O1: each word is evaluated by the decoder. -/
theorem writtenOutWordsDecode : Obligations.WrittenOutWordsDecode :=
  ⟨rfl, rfl, rfl, rfl, rfl, rfl, rfl⟩

/-! ### Stored programs (30_encoding.md R70) -/

theorem storeProgram_cons (i : Instr) (rest : List Instr) :
    storeProgram (i :: rest) = i.opcode :: i.imm :: storeProgram rest := by
  rw [storeProgram, storeWord, encode, opField_append, immField_append]
  rfl

theorem loadProgram_storeProgram (is : List Instr) : loadProgram (storeProgram is) = .ok is := by
  induction is with
  | nil => rfl
  | cons i rest ih =>
    have hd : decode (i.opcode ++ i.imm) = .ok i := decode_encode i
    simp only [storeProgram_cons, loadProgram, hd, ih]

/-- Settles O6: the load undoes the store word by word, and a word's two bytes are its two fields. -/
theorem storedProgramLoadsBack : Obligations.StoredProgramLoadsBack :=
  ⟨loadProgram_storeProgram, storeProgram_cons⟩

end Sys2Proof.Machine

namespace Sys2Proof.Machine

/-! ### Every command, word and step answers a next state (70_reset_and_hazards.md R241) -/

/-- The other direction of `exec_next_case`: each case is what `exec` does. -/
theorem ExecCase.exec_eq {s t : State} {i : Instr} (h : ExecCase s i t) : exec i s = .next t := by
  cases h
  case payPutFull h => exact if_pos h
  case payPut h => exact if_neg h
  case seqSetZero h => exact exec_seqSet_of_zero s h
  case seqSet h => exact exec_seqSet_of_ne_zero s h
  case send h => exact exec_send_of_pktValid _ h
  case sendNoPacket h => exact exec_send_of_not_pktValid _ h
  case rdPkt h hv => exact exec_rdPkt_of_lt hv h
  case rdPktRange h hv => exact exec_rdPkt_of_ge hv (Nat.le_of_not_lt h)
  case rdPktNoPacket hv => exact exec_rdPkt_of_not_pktValid hv
  all_goals rfl

/-- The guards of a command's cases leave nothing out. -/
theorem exists_execCase (s : State) (i : Instr) : ∃ t, ExecCase s i t := by
  cases i
  case payPut d =>
    by_cases h : s.fill = 128
    · exact ⟨_, .payPutFull d h⟩
    · exact ⟨_, .payPut d h⟩
  case seqSet n =>
    by_cases h : n = 0
    · exact ⟨_, .seqSetZero n h⟩
    · exact ⟨_, .seqSet n h⟩
  case send x =>
    cases hv : s.pktValid
    · exact ⟨_, .sendNoPacket x hv⟩
    · exact ⟨_, .send x hv⟩
  case rdPkt k =>
    cases hv : s.pktValid
    · exact ⟨_, .rdPktNoPacket k hv⟩
    · by_cases h : k.toNat < 133
      · exact ⟨_, .rdPkt k h hv⟩
      · exact ⟨_, .rdPktRange k h hv⟩
  all_goals exact ⟨_, by constructor⟩

theorem exec_completes (i : Instr) (s : State) : ∃ t, exec i s = .next t :=
  (exists_execCase s i).imp fun _ h => h.exec_eq

theorem execWord_of_decode_ok {w : Word} {i : Instr} (hd : decode w = .ok i) (s : State) :
    execWord w s = exec i s := by
  simp only [execWord, hd]

theorem execWord_of_decode_error {w : Word} {e : DecodeError} (hd : decode w = .error e) (s : State) :
    execWord w s = .next (s.raise .ill) := by
  simp only [execWord, hd]

theorem execWord_encode (i : Instr) (s : State) : execWord (encode i) s = exec i s :=
  execWord_of_decode_ok (decode_encode i) s

theorem execWord_completes (w : Word) (s : State) : ∃ t, execWord w s = .next t := by
  cases hd : decode w with
  | ok i => exact execWord_of_decode_ok hd s ▸ exec_completes i s
  | error e => exact ⟨_, execWord_of_decode_error hd s⟩

theorem step_of_no_inputs {s : State} (h : s.inputs = []) : step s = .next s := by
  simp only [step, h]

theorem step_eq_takeAction {s : State} {a : HostAction} {rest : List HostAction} (h : s.inputs = a :: rest) :
    step s = takeAction a (s.setInputs rest) := by
  simp only [step, h]

theorem takeAction_command_of_reset {s : State} (h : s.resetLine = true) (w : Word) :
    takeAction (.command w) s = .next s :=
  if_pos h

theorem takeAction_completes (a : HostAction) (s : State) : ∃ t, takeAction a s = .next t := by
  cases a with
  | command w =>
    cases hl : s.resetLine with
    | true => exact ⟨s, takeAction_command_of_reset hl w⟩
    | false => simpa [takeAction, hl] using execWord_completes w s
  | reset b => exact ⟨_, rfl⟩
  | sample => exact ⟨_, rfl⟩
  | drain n => exact ⟨_, rfl⟩

theorem step_completes (s : State) : ∃ t, step s = .next t := by
  cases hi : s.inputs with
  | nil => exact ⟨s, step_of_no_inputs hi⟩
  | cons a rest => exact step_eq_takeAction hi ▸ takeAction_completes a _

/-- Settles O12, by induction on the number of steps. -/
theorem everyRunCompletes : Obligations.EveryRunCompletes := by
  intro k
  induction k with
  | zero => exact fun s => ⟨s, rfl⟩
  | succ k ih =>
    intro s
    obtain ⟨t, hstep⟩ := step_completes s
    rw [run_succ_of_step hstep]
    exact ih t

/-! ### Ignored operands (30_encoding.md R74) -/

/-- A command of ignoring kind is what any word with its opcode executes, whatever the IMM. -/
theorem execWord_opcode_of_ignored {i : Instr} (hk : i.kind = .ignored) (b : Byte) (s : State) :
    execWord (i.opcode ++ b) s = exec i s :=
  match i, hk with
  | .nop _, _ => execWord_encode (.nop b) s
  | .crcClr _, _ => execWord_encode (.crcClr b) s
  | .payClr _, _ => execWord_encode (.payClr b) s
  | .seqAdv _, _ => execWord_encode (.seqAdv b) s
  | .build _, _ => execWord_encode (.build b) s
  | .send _, _ => execWord_encode (.send b) s
  | .rdCrc _, _ => execWord_encode (.rdCrc b) s
  | .rdStat _, _ => execWord_encode (.rdStat b) s
  | .rdSeq _, _ => execWord_encode (.rdSeq b) s
  | .rdFill _, _ => execWord_encode (.rdFill b) s
  | .srst _, _ => execWord_encode (.srst b) s

theorem exec_eq_of_ignored {i j : Instr} (hk : i.kind = .ignored) (hop : i.opcode = j.opcode) (s : State) :
    exec i s = exec j s :=
  calc exec i s = execWord (i.opcode ++ j.imm) s := (execWord_opcode_of_ignored hk j.imm s).symm
    _ = execWord (encode j) s := by rw [hop, encode]
    _ = exec j s := execWord_encode j s

theorem maskBits_eq_of_low_bits {m m' : Byte} (h : ∀ k < 5, m.getLsbD k = m'.getLsbD k) :
    maskBits m = maskBits m' := by
  apply BitVec.eq_of_getLsbD_eq
  intro k hk
  rw [maskBits_getLsbD, maskBits_getLsbD, h k hk]

/-- Settles O7: an ignored operand and the high bits of a mask do not reach the effect, and `exec` is total. -/
theorem ignoredOperandBitsNeverMatter : Obligations.IgnoredOperandBitsNeverMatter := by
  refine ⟨fun i j s hk hop => exec_eq_of_ignored hk hop s, fun m m' s h => ?_, exec_completes⟩
  rw [exec_errClr, exec_errClr, maskBits_eq_of_low_bits h]

/-! ### One step, by the host's action (70_reset_and_hazards.md R231, R242) -/

/-- Settles O8: the step executes the word, and the word the command it decodes to. -/
theorem stepRunsTheDecodedCommand : Obligations.StepRunsTheDecodedCommand := fun _ _ _ _ hi hl hd =>
  (step_eq_execWord hi hl).trans (execWord_of_decode_ok hd _)

/-- Settles O9: it is the idle case of the step. -/
theorem idleStepHoldsTheState : Obligations.IdleStepHoldsTheState := fun _ => step_of_no_inputs

theorem driveReset_of_asserted_or_held {s : State} {b : Bool} (h : (b || s.resetLine) = true) :
    s.driveReset b = { s.resetRegisters with resetLine := b } :=
  if_pos h

/-- Driving the input where it takes effect leaves the values of R230. -/
theorem driveReset_hasResetValues {s : State} {b : Bool} (h : (b || s.resetLine) = true) :
    (s.driveReset b).HasResetValues := by
  rw [driveReset_of_asserted_or_held h]
  exact resetRegisters_hasResetValues s

/-- Settles O10: a held word is dropped, either edge resets the registers, and the word after the release finds the
input released. -/
theorem resetInputHoldsAndResets : Obligations.ResetInputHoldsAndResets := by
  refine ⟨fun s w rest hi hl => ?_, fun s rest hi => ?_, fun s rest hi hl => ?_⟩
  · exact (step_eq_takeAction hi).trans (takeAction_command_of_reset (s := s.setInputs rest) hl w)
  · exact ⟨_, step_eq_takeAction hi, driveReset_hasResetValues rfl, rfl, rfl, rfl, rfl, rfl⟩
  · have hdrive := driveReset_of_asserted_or_held (s := s.setInputs rest) (b := false) hl
    refine ⟨_, (step_eq_takeAction hi).trans (congrArg Host.Outcome.next hdrive), ?_, rfl, rfl, rfl, rfl, rfl, ?_⟩
    · exact resetRegisters_hasResetValues (s.setInputs rest)
    · intro w rest' hrest
      exact step_eq_execWord hrest rfl

/-- Settles O11: the host's two other actions write the host's lists and TXQ alone. -/
theorem sampleAndDrainChangeNoRegister : Obligations.SampleAndDrainChangeNoRegister := by
  refine ⟨fun s rest hi => step_eq_takeAction hi, fun s n rest hi => ?_⟩
  refine ⟨(s.setInputs rest).drain n, step_eq_takeAction hi, drain_emitted _ n, ?_, rfl⟩
  rw [State.drain_taken, State.setInputs_taken, State.setInputs_txq, List.length_append, List.length_take]

/-- Settles O42: the reset state is a literal, and has emitted nothing. -/
theorem resetStateMeetsTheInvariants : Obligations.ResetStateMeetsTheInvariants := by
  refine ⟨by decide, rfl, rfl, by decide, by decide, ?_, Nat.dvd_zero _⟩
  exact fun hv => nomatch hv

end Sys2Proof.Machine

namespace Sys2Proof.Machine

/-! ### Chaining (40_crc.md R103) -/

theorem crcFold_append (s : Word) (xs ys : List Byte) : crcFold s (xs ++ ys) = crcFold (crcFold s xs) ys := by
  induction xs generalizing s with
  | nil => rfl
  | cons b bs ih => exact ih (crcUpdate s b)

/-- Settles O17, by induction on the first list. -/
theorem crcFoldOfAppend : Obligations.CrcFoldOfAppend := crcFold_append

/-! ### Maps that are linear over GF(2) (40_crc.md section 3) -/

/-- The map sends an XOR to the XOR of the images. -/
def XorLinear {v w : Nat} (f : BitVec v → BitVec w) : Prop := ∀ x y, f (x ^^^ y) = f x ^^^ f y

namespace XorLinear

variable {u v w : Nat} {f g : BitVec v → BitVec w}

theorem id : XorLinear (fun x : BitVec w => x) := fun _ _ => rfl

theorem comp {h : BitVec w → BitVec u} (hh : XorLinear h) (hf : XorLinear f) : XorLinear fun x => h (f x) :=
  fun x y => by simp only [hf x y, hh _ _]

theorem iterate {f : BitVec w → BitVec w} (hf : XorLinear f) (n : Nat) : XorLinear f^[n] := by
  induction n with
  | zero => exact id
  | succ n ih => exact ih.comp hf

theorem xor (hf : XorLinear f) (hg : XorLinear g) : XorLinear fun x => f x ^^^ g x := fun x y => by
  simp only [hf x y, hg x y]
  ac_rfl

theorem shiftLeft (hf : XorLinear f) (n : Nat) : XorLinear fun x => f x <<< n := fun x y => by
  simp only [hf x y, BitVec.shiftLeft_xor_distrib]

theorem ushiftRight (hf : XorLinear f) (n : Nat) : XorLinear fun x => f x >>> n := fun x y => by
  simp only [hf x y, BitVec.ushiftRight_xor_distrib]

theorem and (hf : XorLinear f) (m : BitVec w) : XorLinear fun x => f x &&& m := fun x y => by
  ext k hk
  simp only [hf x y, BitVec.getElem_and, BitVec.getElem_xor, Bool.and_xor_distrib_right]

theorem extractLsb' (start len : Nat) : XorLinear fun x : BitVec v => x.extractLsb' start len :=
  fun _ _ => BitVec.extractLsb'_xor

/-- A linear map with no other zero than 0 is injective. -/
theorem injective (hf : XorLinear f) (hker : ∀ x, f x = 0#w → x = 0#v) : Function.Injective f := by
  intro x y hxy
  have hzero : f (x ^^^ y) = 0#w := by rw [hf, hxy, BitVec.xor_self]
  exact BitVec.xor_eq_zero_iff.mp (hker _ hzero)

end XorLinear

/-! ### `crc_update` as a linear map of the two bytes of the state (40_crc.md R101) -/

theorem pair_xor (a b c d : Byte) : pair (a ^^^ c) (b ^^^ d) = pair a b ^^^ pair c d :=
  BitVec.xor_append.symm

/-- The last three steps of R101, on the state into which the byte has been fed. -/
def crcMix (fed : Word) : Word :=
  let low := fed ^^^ ((fed &&& 0xFF) >>> 4)
  let high := low ^^^ ((low <<< 8) <<< 4)
  high ^^^ (((high &&& 0xFF) <<< 4) <<< 1)

theorem crcMix_xorLinear : XorLinear crcMix :=
  have hlow : XorLinear fun t : Word => t ^^^ ((t &&& 0xFF#16) >>> 4) :=
    XorLinear.id.xor ((XorLinear.id.and _).ushiftRight 4)
  have hhigh : XorLinear fun t : Word => t ^^^ ((t <<< 8) <<< 4) :=
    XorLinear.id.xor ((XorLinear.id.shiftLeft 8).shiftLeft 4)
  have hout : XorLinear fun t : Word => t ^^^ (((t &&& 0xFF#16) <<< 4) <<< 1) :=
    XorLinear.id.xor (((XorLinear.id.and _).shiftLeft 4).shiftLeft 1)
  hout.comp (hhigh.comp hlow)

/-- The first step of R101 swaps the two bytes of the state. -/
theorem swap_eq_pair (s : Word) : ((s >>> 8) &&& 0xFF#16) ||| (s <<< 8) = pair (lo8 s) (hi8 s) := by
  have hmask : ∀ k < 16, (0xFF#16).getLsbD k = decide (k < 8) := by decide
  apply BitVec.eq_of_getLsbD_eq
  intro k hk
  simp only [pair, append_getLsbD, lo8, hi8, BitVec.getLsbD_or, BitVec.getLsbD_and, BitVec.getLsbD_ushiftRight,
    BitVec.getLsbD_shiftLeft, BitVec.getLsbD_extractLsb', hmask k hk]
  by_cases h : k < 8
  · simp [h]
  · have h8 : k - 8 < 8 := by omega
    simp [h, hk, h8]

theorem setWidth_eq_pair (b : Byte) : b.setWidth 16 = pair 0#8 b := by
  revert b
  decide +kernel

/-- The byte is fed into the byte of the state that was the high one. -/
theorem crcUpdate_eq_crcMix (s : Word) (b : Byte) : crcUpdate s b = crcMix (pair (lo8 s) (hi8 s ^^^ b)) := by
  have hfed : pair (lo8 s) (hi8 s ^^^ b) = pair (lo8 s) (hi8 s) ^^^ b.setWidth 16 := by
    rw [setWidth_eq_pair, ← pair_xor, BitVec.xor_zero]
  rw [hfed, ← swap_eq_pair]
  rfl

theorem crcUpdate_xor (s₁ s₂ : Word) (b₁ b₂ : Byte) :
    crcUpdate (s₁ ^^^ s₂) (b₁ ^^^ b₂) = crcUpdate s₁ b₁ ^^^ crcUpdate s₂ b₂ := by
  have hfeed : hi8 (s₁ ^^^ s₂) ^^^ (b₁ ^^^ b₂) = (hi8 s₁ ^^^ b₁) ^^^ (hi8 s₂ ^^^ b₂) := by
    rw [hi8, BitVec.extractLsb'_xor]
    simp only [hi8]
    ac_rfl
  simp only [crcUpdate_eq_crcMix, hfeed, ← crcMix_xorLinear _ _, ← pair_xor]
  simp only [lo8, BitVec.extractLsb'_xor]

/-- Settles O18: after the swap, which moves bits, every step of R101 is an XOR of shifts and masks of the state. -/
theorem crcUpdateIsLinear : Obligations.CrcUpdateIsLinear := ⟨rfl, crcUpdate_xor⟩

/-! ### The bitwise form (40_crc.md R102) -/

/-- A round is a shift, XORed with the polynomial where the top bit is set. -/
theorem crcBit_eq_xor (t : Word) : crcBit t = (t <<< 1) ^^^ (if t.msb then Config.crcPoly else 0#16) := by
  cases h : t.msb <;> simp [crcBit, h]

theorem crcBit_xorLinear : XorLinear crcBit := by
  have hpoly : XorLinear fun t : Word => if t.msb then Config.crcPoly else 0#16 := by
    intro x y
    simp only [BitVec.msb_xor]
    cases x.msb <;> cases y.msb <;> rfl
  rw [funext crcBit_eq_xor]
  exact (XorLinear.id.shiftLeft 1).xor hpoly

/-- R102 too feeds the byte into the high byte of the state. -/
theorem crcUpdateBitwise_eq (s : Word) (b : Byte) :
    crcUpdateBitwise s b = crcBit^[8] (pair (hi8 s ^^^ b) (lo8 s)) := by
  have hb : b.setWidth 16 <<< 8 = pair b 0#8 := by
    revert b
    decide +kernel
  have hfed : pair (hi8 s ^^^ b) (lo8 s) = s ^^^ pair b 0#8 := by
    conv_rhs => rw [← pair_hi8_lo8 s, ← pair_xor, BitVec.xor_zero]
  rw [crcUpdateBitwise, hb, hfed]

/-! The two forms agree on each byte of the state alone, so by linearity they agree. -/

theorem crcMix_high (l : Byte) : crcMix (pair l 0#8) = pair l 0#8 := by
  revert l
  decide +kernel

theorem crcBit_iterate_low (l : Byte) : crcBit^[8] (pair 0#8 l) = pair l 0#8 := by
  revert l
  decide +kernel

theorem crcMix_low (h : Byte) : crcMix (pair 0#8 h) = crcBit^[8] (pair h 0#8) := by
  revert h
  decide +kernel

theorem crcMix_swap (h l : Byte) : crcMix (pair l h) = crcBit^[8] (pair h l) := by
  have hsplit (a b : Byte) : pair a b = pair a 0#8 ^^^ pair 0#8 b := by
    rw [← pair_xor, BitVec.xor_zero, BitVec.zero_xor]
  rw [hsplit l h, hsplit h l, crcMix_xorLinear, crcBit_xorLinear.iterate 8, crcMix_high, crcMix_low,
    crcBit_iterate_low, BitVec.xor_comm]

/-- Settles O15: both forms are linear maps of the same two bytes, and agree on each byte (`crcMix_swap`). -/
theorem crcUpdateIsTheBitwiseCrc : Obligations.CrcUpdateIsTheBitwiseCrc := fun s b => by
  rw [crcUpdate_eq_crcMix, crcUpdateBitwise_eq, crcMix_swap]

/-- The polynomial is odd, so the lowest bit of a round's result tells the top bit that was shifted out. -/
theorem crcBit_getLsbD_zero (t : Word) : (crcBit t).getLsbD 0 = t.msb := by
  cases h : t.msb <;> simp [crcBit, h, Config.crcPoly]

theorem crcBit_injective : Function.Injective crcBit := by
  refine crcBit_xorLinear.injective fun t ht => ?_
  have hmsb : t.msb = false := by rw [← crcBit_getLsbD_zero, ht, BitVec.getLsbD_zero]
  have hshift : t <<< 1 = 0#16 := by simpa [crcBit, hmsb] using ht
  apply BitVec.eq_of_getLsbD_eq
  intro k hk
  rcases Nat.lt_or_ge k 15 with h | h
  · have hsucc : k + 1 < 16 := Nat.succ_lt_succ h
    have hbit : (t <<< 1).getLsbD (k + 1) = t.getLsbD k := by simp [hk, hsucc]
    rw [← hbit, hshift, BitVec.getLsbD_zero, BitVec.getLsbD_zero]
  · obtain rfl : k = 15 := by omega
    rw [← BitVec.msb_eq_getLsbD_last t, hmsb, BitVec.getLsbD_zero]

theorem crcUpdate_injective (b : Byte) : Function.Injective fun s : Word => crcUpdate s b := by
  have hfeed : Function.Injective fun s : Word => s ^^^ (b.setWidth 16 <<< 8) :=
    fun _ _ h => (BitVec.xor_left_inj _).mp h
  have hb := (crcBit_injective.iterate 8).comp hfeed
  intro s t hst
  simp only [crcUpdateIsTheBitwiseCrc _ _] at hst
  exact hb hst

/-- Settles O19: a composition of injective rounds and the XOR with the byte, on a finite type. -/
theorem crcUpdateIsBijectiveInTheState : Obligations.CrcUpdateIsBijectiveInTheState := fun b =>
  Finite.injective_iff_bijective.mp (crcUpdate_injective b)

/-- A state fed its own high byte moves its low byte up and clears the rest. -/
theorem crcUpdate_pair_self (h l : Byte) : crcUpdate (pair h l) h = pair l 0#8 := by
  rw [crcUpdate_eq_crcMix, lo8_pair, hi8_pair, BitVec.xor_self]
  exact crcMix_high l

theorem crcFold_own_bytes (s : Word) : crcFold s [hi8 s, lo8 s] = 0 := by
  have hhigh := crcUpdate_pair_self (hi8 s) (lo8 s)
  rw [pair_hi8_lo8] at hhigh
  rw [crcFold_cons, hhigh, crcFold_cons, crcUpdate_pair_self]
  rfl

/-- Settles O20: chaining leaves the checksum to be fed its own two bytes. -/
theorem receiverResidueIsZero : Obligations.ReceiverResidueIsZero := fun bs =>
  (crcFold_append Config.crcInit bs _).trans (crcFold_own_bytes (crcOf bs))

end Sys2Proof.Machine

namespace Sys2Proof.Machine

/-! ### Runs of commands -/

theorem execAll_cons {i : Instr} {s t : State} (h : exec i s = .next t) (is : List Instr) :
    execAll (i :: is) s = execAll is t := by
  simp only [execAll, h]

theorem execAll_singleton {i : Instr} {s t : State} (h : exec i s = .next t) : execAll [i] s = .next t :=
  execAll_cons h []

theorem execAll_append {is : List Instr} {s t : State} (h : execAll is s = .next t) (js : List Instr) :
    execAll (is ++ js) s = execAll js t := by
  induction is generalizing s with
  | nil =>
    obtain rfl := Host.Outcome.next.inj h
    rfl
  | cons i is ih =>
    obtain ⟨u, hu⟩ := exec_completes i s
    rw [execAll_cons hu] at h
    rw [List.cons_append, execAll_cons hu, ih h]

theorem execAll_crcLd16 (s : State) (v : Word) : execAll (Pseudo.crcLd16 v).expand s = .next (s.setCrc v) := by
  have hload := exec_crcLdl (s.setCrc (pair (hi8 v) (lo8 s.crc))) (lo8 v)
  rw [State.setCrc_crc, hi8_pair, pair_hi8_lo8] at hload
  exact (execAll_cons (exec_crcLdh s (hi8 v)) _).trans (execAll_singleton hload)

theorem execAll_crcLd16_reverse (s : State) (v : Word) :
    execAll (Pseudo.crcLd16 v).expand.reverse s = .next (s.setCrc v) := by
  have hload := exec_crcLdh (s.setCrc (pair (hi8 s.crc) (lo8 v))) (hi8 v)
  rw [State.setCrc_crc, lo8_pair, pair_hi8_lo8] at hload
  exact (execAll_cons (exec_crcLdl s (lo8 v)) _).trans (execAll_singleton hload)

/-- Settles O24: the second load keeps the byte that the first wrote. -/
theorem crcLd16LoadsTheValue : Obligations.CrcLd16LoadsTheValue := fun v s =>
  ⟨execAll_crcLd16 s v, execAll_crcLd16_reverse s v⟩

/-! ### Advances of the sequence number (41_framer.md section 4) -/

theorem execAll_replicate_seqAdv (k : Nat) (x : Byte) (s : State) :
    execAll (List.replicate k (.seqAdv x)) s = .next (s.setSeq (nextSeq^[k] s.seq)) := by
  induction k generalizing s with
  | zero => rfl
  | succ k ih =>
    rw [List.replicate_succ, execAll_cons (exec_seqAdv s x), ih]
    rfl

theorem nextSeq_iterate_toNat {n : Byte} (hn : n.toNat = 1) (k : Nat) : (nextSeq^[k] n).toNat = k % 255 + 1 := by
  induction k with
  | zero => exact hn
  | succ k ih =>
    rw [Function.iterate_succ_apply', nextSeq_toNat, ih]
    split <;> omega

/-- Settles O29: k advances iterate the successor, whose value after k of them is an induction. -/
theorem seqAdvCyclesThrough255Values : Obligations.SeqAdvCyclesThrough255Values := fun k s hs =>
  ⟨_, execAll_replicate_seqAdv k 0x00 s, nextSeq_iterate_toNat hs k, rfl⟩

/-! ### Loading a chunk (41_framer.md R121, R127) -/

/-- The bytes of PAY that count: those before FILL (10_state.md R25). -/
def State.loaded (s : State) : List Byte := s.pay.toList.take s.fill.toNat

theorem loaded_of_fill_zero {s : State} (h : s.fill = 0) : s.loaded = [] := by
  rw [State.loaded, h]
  rfl

theorem clearPay_loaded (s : State) : s.clearPay.loaded = [] :=
  loaded_of_fill_zero s.clearPay_fill

theorem putPay_loaded {s : State} (d : Byte) (h : s.fill.toNat < 128) :
    (s.putPay d).loaded = s.loaded ++ [d] := by
  rw [State.loaded, putPay_fill_toNat d h, State.putPay_pay, Vector.toList_setIfInBounds, List.take_add_one,
    List.take_set_of_le (Nat.le_refl _), List.getElem?_set_self (by simpa using h)]
  rfl

/-- The payload that BUILD frames is the loaded bytes with the filler after them. -/
theorem payload_toList {s : State} (h : s.fill.toNat ≤ 128) : s.payload.toList = padChunk s.loaded := by
  have hlen : s.loaded.length = s.fill.toNat := by simp [State.loaded, h]
  apply List.ext_getElem
  · simp [padChunk, hlen, h]
  intro i hi _
  have hi128 : i < 128 := by simpa using hi
  simp only [Vector.getElem_toList, payload_getElem s i hi128, padChunk, List.getElem_append, hlen]
  by_cases hlt : i < s.fill.toNat
  · simp [State.loaded, hlt]
  · simp [hlt]

theorem execAll_loadChunk (ch : List Byte) (s : State) (h : s.fill.toNat + ch.length ≤ 128) :
    ∃ t, execAll (loadChunk ch) s = .next t ∧ t.loaded = s.loaded ++ ch ∧ t.fill.toNat = s.fill.toNat + ch.length ∧
      t = { s with pay := t.pay, fill := t.fill } := by
  induction ch generalizing s with
  | nil => exact ⟨s, rfl, (List.append_nil _).symm, rfl, rfl⟩
  | cons d ds ih =>
    rw [List.length_cons] at h
    have hroom : s.fill.toNat < 128 := by omega
    have hfill := putPay_fill_toNat d hroom
    obtain ⟨t, hrun, hloaded, htfill, hframe⟩ := ih (s.putPay d) (by omega)
    refine ⟨t, (execAll_cons (exec_payPut_of_not_full d hroom.ne) _).trans hrun, ?_, ?_, hframe⟩
    · rw [hloaded, putPay_loaded d hroom, List.append_assoc, List.singleton_append]
    · rw [htfill, hfill, List.length_cons]
      omega

/-- What `frameChunk` leaves (41_framer.md section 5), with its frame. -/
theorem execAll_frameChunk {ch : List Byte} (s : State) (h : ch.length ≤ 128) :
    ∃ t, execAll (frameChunk ch) s = .next t ∧ t.pkt.toList = frame s.seq ch ∧ t.crc = crcOf (padChunk ch) ∧
      t = { s with crc := t.crc, pkt := t.pkt, pktValid := true, fill := 0, pay := t.pay, draws := t.draws } := by
  obtain ⟨u, hload, hloaded, hfill, hframe⟩ :=
    execAll_loadChunk ch s.clearPay ((Nat.zero_add ch.length).trans_le h)
  have hpayload : u.payload.toList = padChunk ch := by
    rw [payload_toList (hfill.trans_le ((Nat.zero_add _).trans_le h)), hloaded, clearPay_loaded,
      List.nil_append]
  have hseq : u.seq = s.seq := by rw [hframe]; rfl
  refine ⟨u.loadPacket u.payload, ?_, ?_, ?_, ?_⟩
  · rw [frameChunk, execAll_cons (exec_payClr s 0), execAll_append hload]
    exact execAll_singleton (exec_build u 0)
  · rw [State.loadPacket_pkt, framePacket_toList, hpayload, hseq, frame]
  · rw [State.loadPacket_crc, hpayload]
  · rw [hframe]
    rfl

theorem frame_length (n : Byte) {ch : List Byte} (h : ch.length ≤ 128) : (frame n ch).length = 133 := by
  simp [frame, padChunk]
  omega

theorem execAll_send {s : State} (x : Byte) (h : s.pktValid = true) :
    execAll [.send x] s = .next (s.emit s.pkt.toList) :=
  execAll_singleton (exec_send_of_pktValid x h)

/-- Settles O33: the fresh packet is the framed chunk sent, and SEND leaves the packet in place for the retry. -/
theorem retryEmitsTheIdenticalFrame : Obligations.RetryEmitsTheIdenticalFrame := by
  intro ch s hch _
  obtain ⟨b, hbuild, hpkt, -, hframe⟩ := execAll_frameChunk s hch
  have hvalid : b.pktValid = true := by rw [hframe]
  have hseq : b.seq = s.seq := by rw [hframe]
  have htxq : b.txq = s.txq := by rw [hframe]
  have herrs : b.errs = s.errs := by rw [hframe]
  have hfresh : execAll (freshPacket ch) s = .next (b.emit b.pkt.toList) :=
    (execAll_append hbuild _).trans (execAll_send 0 hvalid)
  have hretry := execAll_send (s := b.emit b.pkt.toList) 0 hvalid
  refine ⟨_, _, _, hfresh, ?_, herrs, hretry, ?_, frame_length _ hch, execAll_singleton (exec_seqAdv _ 0), ?_, rfl⟩
  · rw [State.emit_txq, htxq, hpkt]
  · rw [State.emit, State.emit, htxq, hpkt]
  · exact hseq ▸ nextSeq_toNat b.seq

/-! ### Commands as words on the port -/

theorem setInputs_setInputs (s : State) (r r' : List HostAction) : (s.setInputs r).setInputs r' = s.setInputs r' := rfl

/-- A run over the words of commands is the execution of the commands, whatever else waits behind them. -/
theorem run_commands {is : List Instr} {s t : State} {rest : List HostAction}
    (hi : s.inputs = is.map (fun i => HostAction.command (encode i)) ++ rest) (hl : s.resetLine = false)
    (h : execAll is (s.setInputs rest) = .next t) : Host.Core.run Sys2Proof.core is.length s = .next t := by
  induction is generalizing s with
  | nil =>
    obtain rfl : s.inputs = rest := hi
    exact h
  | cons i is ih =>
    obtain ⟨u, hexec⟩ := exec_completes i (s.setInputs rest)
    obtain ⟨hinputs, hline, -, -⟩ := (exec_next_case hexec).host_side
    rw [execAll_cons hexec] at h
    have hstep := (step_eq_execWord hi hl).trans ((execWord_encode i _).trans (exec_setInputs hexec _))
    rw [List.length_cons, run_succ_of_step hstep]
    refine ih rfl (hline.trans hl) ?_
    have hu : u.setInputs rest = u := (congrArg u.setInputs hinputs).symm
    rw [setInputs_setInputs, hu]
    exact h

/-- Settles O32: the words execute the commands of `frameChunk`, which leave the frame (`execAll_frameChunk`). -/
theorem framingAChunkLeavesItsFrame : Obligations.FramingAChunkLeavesItsFrame := by
  intro ch s rest hch hl hi
  obtain ⟨t, hrun, hpkt, hcrc, hframe⟩ := execAll_frameChunk (s.setInputs rest) hch
  have hlen : (frameChunk ch).length = ch.length + 2 := by simp [frameChunk, loadChunk]
  refine ⟨t, hlen ▸ run_commands hi hl hrun, ?_, hcrc, hpkt, ?_, hframe⟩
  · rw [hpkt, hcrc]
    rfl
  · rw [hframe]

end Sys2Proof.Machine

namespace Sys2Proof.Machine

/-! ### What a command can write, field by field (10_state.md sections 5 to 8)

Each lemma names the commands whose cases write the field; every other case leaves it as it was. -/

/-- The command meets the condition of the error (60_exceptions.md R202 to R206). -/
inductive Raises (s : State) : Instr → ErrorKind → Prop where
  | payPutFull (d : Byte) (h : s.fill.toNat = 128) : Raises s (.payPut d) .ovf
  | seqSetZero : Raises s (.seqSet 0) .seq0
  | sendNoPacket (x : Byte) (hv : s.pktValid = false) : Raises s (.send x) .nopkt
  | rdPktNoPacket (k : Byte) (hv : s.pktValid = false) : Raises s (.rdPkt k) .nopkt
  | rdPktRange (k : Byte) (hv : s.pktValid = true) (h : 133 ≤ k.toNat) : Raises s (.rdPkt k) .range

namespace ExecCase

variable {s t : State} {i : Instr}

theorem packet (h : ExecCase s i t) :
    (t.pkt = s.pkt ∧ t.pktValid = s.pktValid) ∨
      (∃ x, i = .build x ∧ t.pktValid = true ∧ t.pkt = framePacket s.seq s.payload) ∨
      ∃ x, i = .srst x ∧ t.pktValid = false := by
  cases h
  case build x => exact .inr (.inl ⟨x, rfl, rfl, rfl⟩)
  case srst x => exact .inr (.inr ⟨x, rfl, rfl⟩)
  all_goals exact .inl ⟨rfl, rfl⟩

theorem rdata (h : ExecCase s i t) : t.rdata = s.rdata ∨ i.isRead = true ∨ ∃ x, i = .srst x := by
  cases h
  case srst x => exact .inr (.inr ⟨x, rfl⟩)
  case rdCrc | rdStat | rdSeq | rdFill | rdPkt | rdPktRange | rdPktNoPacket => exact .inr (.inl rfl)
  all_goals exact .inl rfl

theorem txq (h : ExecCase s i t) :
    t.txq = s.txq ∨ (s.pktValid = true ∧ t.txq = s.txq ++ s.pkt.toList ∧ ∃ x, i = .send x) := by
  cases h
  case send x hv => exact .inr ⟨hv, rfl, x, rfl⟩
  all_goals exact .inl rfl

theorem errs (h : ExecCase s i t) :
    t.errs = s.errs ∨ (∃ e, Raises s i e ∧ t.errs = (s.raise e).errs) ∨
      (∃ m, i = .errClr m ∧ t.errs = (s.clearErrors (maskBits m)).errs) ∨ ∃ x, i = .srst x ∧ t.errs = 0#5 := by
  cases h
  case payPutFull d h => exact .inr (.inl ⟨.ovf, .payPutFull d ((fill_eq_full_iff s).mp h), rfl⟩)
  case seqSetZero n h =>
    subst h
    exact .inr (.inl ⟨.seq0, .seqSetZero, rfl⟩)
  case sendNoPacket x hv => exact .inr (.inl ⟨.nopkt, .sendNoPacket x hv, rfl⟩)
  case rdPktNoPacket k hv => exact .inr (.inl ⟨.nopkt, .rdPktNoPacket k hv, rfl⟩)
  case rdPktRange k h hv => exact .inr (.inl ⟨.range, .rdPktRange k hv (Nat.le_of_not_lt h), rfl⟩)
  case errClr m => exact .inr (.inr (.inl ⟨m, rfl, rfl⟩))
  case srst x => exact .inr (.inr (.inr ⟨x, rfl, rfl⟩))
  all_goals exact .inl rfl

/-- SEQ is never written with 0 (10_state.md R23). -/
theorem seq (h : ExecCase s i t) : t.seq = s.seq ∨ 1 ≤ t.seq.toNat := by
  have hpos {n : Byte} (hn : n ≠ 0) : 1 ≤ n.toNat := by bv_omega
  cases h
  case seqSet n hn => exact .inr (hpos hn)
  case seqAdv x => exact .inr (hpos (nextSeq_ne_zero s.seq))
  case srst x => exact .inr (hpos (n := Config.seqFirst) (by decide))
  all_goals exact .inl rfl

theorem fill (h : ExecCase s i t) :
    t.fill = s.fill ∨ t.fill = 0 ∨ (s.fill.toNat ≠ 128 ∧ t.fill = s.fill + 1 ∧ ∃ d, i = .payPut d) := by
  cases h
  case payPut d h => exact .inr (.inr ⟨mt (fill_eq_full_iff s).mpr h, rfl, d, rfl⟩)
  case payClr | build | srst => exact .inr (.inl rfl)
  all_goals exact .inl rfl

end ExecCase

/-- Settles O46: the cases of `ExecCase.packet`, and an undefined word only raises E_ILL. -/
theorem onlyBuildAndSrstWriteThePacket : Obligations.OnlyBuildAndSrstWriteThePacket := by
  intro w s t h
  cases execWord_next_case h with
  | undefined e hd ht => exact .inl (by rw [ht]; exact ⟨rfl, rfl⟩)
  | defined i hd hc =>
    obtain hkept | ⟨x, rfl, hv, -⟩ | ⟨x, rfl, hv⟩ := hc.packet
    · exact .inl hkept
    · exact .inr (.inl ⟨x, hd, hv⟩)
    · exact .inr (.inr ⟨x, hd, hv⟩)

/-- Settles O47: the cases of `ExecCase.rdata`. -/
theorem onlyReadsAndSrstWriteRdata : Obligations.OnlyReadsAndSrstWriteRdata := by
  intro w s t h hne
  cases execWord_next_case h with
  | undefined e hd ht => exact absurd (ht ▸ s.raise_rdata .ill) hne
  | defined i hd hc => exact ⟨i, hd, hc.rdata.resolve_left hne⟩

theorem raise_errs_getLsbD_of_true {s : State} {k : Nat} (h : s.errs.getLsbD k = true) (e : ErrorKind) :
    (s.raise e).errs.getLsbD k = true := by
  rw [raise_errs_getLsbD, h, Bool.true_or]

theorem eq_bit_of_raise_errs_getLsbD {s : State} {k : Nat} {e : ErrorKind} (h : s.errs.getLsbD k = false)
    (ht : (s.raise e).errs.getLsbD k = true) : k = e.bit := by
  rw [raise_errs_getLsbD, h, Bool.false_or] at ht
  exact of_decide_eq_true ht

/-- Settles O48: of the cases of `ExecCase.errs`, raising clears nothing, and ERR_CLR clears the bits of its mask. -/
theorem errorBitsStayUntilCleared : Obligations.ErrorBitsStayUntilCleared := by
  intro w s t k h hs ht
  cases execWord_next_case h with
  | undefined e hd he => rw [he, raise_errs_getLsbD_of_true hs] at ht; cases ht
  | defined i hd hc =>
    obtain he | ⟨e, -, he⟩ | ⟨m, rfl, he⟩ | ⟨x, rfl, -⟩ := hc.errs
    · rw [he, hs] at ht; cases ht
    · rw [he, raise_errs_getLsbD_of_true hs] at ht; cases ht
    · rw [he, clearErrors_errs_getLsbD, hs, maskBits_getLsbD] at ht
      have hm : k < 5 ∧ m.getLsbD k = true := by simpa using ht
      exact .inl ⟨m, hd, hm.2⟩
    · exact .inr ⟨x, hd⟩

/-- Settles O49: only a raised error sets a bit, its own, and the command that raises it meets its condition. -/
theorem errorBitsSetOnlyByTheirConditions : Obligations.ErrorBitsSetOnlyByTheirConditions := by
  intro w s t k h hs ht
  cases execWord_next_case h with
  | undefined e hd he =>
    subst he
    exact .inl ⟨eq_bit_of_raise_errs_getLsbD hs ht, undefinedOp_of_decode_error hd⟩
  | defined i hd hc =>
    obtain he | ⟨e, hr, he⟩ | ⟨m, rfl, he⟩ | ⟨x, rfl, he⟩ := hc.errs
    · rw [he, hs] at ht; cases ht
    · rw [he] at ht
      have hk := eq_bit_of_raise_errs_getLsbD hs ht
      cases hr with
      | payPutFull d hfull => exact .inr (.inl ⟨hk, hfull, d, hd⟩)
      | seqSetZero => exact .inr (.inr (.inl ⟨hk, hd⟩))
      | sendNoPacket x hv => exact .inr (.inr (.inr (.inl ⟨hk, hv, .inl ⟨x, hd⟩⟩)))
      | rdPktNoPacket j hv => exact .inr (.inr (.inr (.inl ⟨hk, hv, .inr ⟨j, hd⟩⟩)))
      | rdPktRange j hv hj => exact .inr (.inr (.inr (.inr ⟨hk, hv, j, hd, hj⟩)))
    · rw [he, clearErrors_errs_getLsbD, hs] at ht; cases ht
    · rw [he, BitVec.getLsbD_zero] at ht; cases ht

/-! ### The error bits and the reads -/

/-- A command executed under other error bits does the same, but for the error bits and what RD_STAT reads. -/
theorem ExecCase.with_errs {s t : State} {i : Instr} (h : ExecCase s i t) (e : BitVec 5) :
    ∃ e' r, ExecCase { s with errs := e } i { t with errs := e', rdata := r } ∧ (i.opcode ≠ 0x41 → r = t.rdata) := by
  cases h
  case rdStat x => exact ⟨e, _, .rdStat x, fun hop => absurd rfl hop⟩
  case payPutFull d h => exact ⟨_, _, .payPutFull d h, fun _ => rfl⟩
  case payPut d h => exact ⟨_, _, .payPut d h, fun _ => rfl⟩
  case seqSetZero n h => exact ⟨_, _, .seqSetZero n h, fun _ => rfl⟩
  case seqSet n h => exact ⟨_, _, .seqSet n h, fun _ => rfl⟩
  case send x hv => exact ⟨_, _, .send x hv, fun _ => rfl⟩
  case sendNoPacket x hv => exact ⟨_, _, .sendNoPacket x hv, fun _ => rfl⟩
  case rdPkt k h hv => exact ⟨_, _, .rdPkt k h hv, fun _ => rfl⟩
  case rdPktRange k h hv => exact ⟨_, _, .rdPktRange k h hv, fun _ => rfl⟩
  case rdPktNoPacket k hv => exact ⟨_, _, .rdPktNoPacket k hv, fun _ => rfl⟩
  all_goals exact ⟨_, _, by constructor, fun _ => rfl⟩

/-- Settles O50: the two executions take the same case. -/
theorem errorBitsChangeNoBehaviour : Obligations.ErrorBitsChangeNoBehaviour := by
  intro i s e
  obtain ⟨t, h⟩ := exists_execCase s i
  obtain ⟨e', r, h', hr⟩ := h.with_errs e
  exact ⟨t, _, h.exec_eq, h'.exec_eq, rfl, hr⟩

/-- A raised error is sticky, so reporting it again changes nothing. -/
theorem raise_setRdata_again (s : State) (e : ErrorKind) (v : Word) :
    (((s.raise e).setRdata v).raise e).setRdata v = (s.raise e).setRdata v := by
  simp only [State.raise, State.setRdata, BitVec.or_assoc, BitVec.or_self]

/-- A read command takes the same case again after itself. -/
theorem ExecCase.read_again {s t : State} {i : Instr} (hr : i.isRead = true) (h : ExecCase s i t) :
    ExecCase t i t := by
  cases h
  case rdCrc x => exact .rdCrc (s := s.setRdata s.crc) x
  case rdStat x => exact .rdStat (s := s.setRdata s.stat) x
  case rdSeq x => exact .rdSeq (s := s.setRdata (zext16 s.seq)) x
  case rdFill x => exact .rdFill (s := s.setRdata (zext16 s.fill)) x
  case rdPkt k h hv => exact .rdPkt (s := s.setRdata (zext16 s.pkt[k.toNat])) k h hv
  case rdPktRange k h hv =>
    have hagain := ExecCase.rdPktRange (s := (s.raise .range).setRdata 0) k h hv
    rwa [raise_setRdata_again] at hagain
  case rdPktNoPacket k hv =>
    have hagain := ExecCase.rdPktNoPacket (s := (s.raise .nopkt).setRdata 0) k hv
    rwa [raise_setRdata_again] at hagain
  all_goals cases hr

/-- Settles O51: the second execution is `ExecCase.read_again`. -/
theorem readsAreIdempotent : Obligations.ReadsAreIdempotent :=
  fun _ _ _ hr h => ((exec_next_case h).read_again hr).exec_eq

end Sys2Proof.Machine

namespace Sys2Proof.Machine

/-! ### The emitted bytes (10_state.md section 8) -/

@[simp] theorem driveReset_emitted (s : State) (b : Bool) : (s.driveReset b).emitted = s.emitted := by
  obtain ⟨-, -, h⟩ | ⟨-, h⟩ := driveReset_cases s b
  · rw [h]
  · rw [h]
    rfl

theorem emitted_append {s t : State} {bs : List Byte} (htaken : t.taken = s.taken) (htxq : t.txq = s.txq ++ bs) :
    t.emitted = s.emitted ++ bs := by
  rw [State.emitted, State.emitted, htaken, htxq, List.append_assoc]

theorem ExecCase.emitted {s t : State} {i : Instr} (h : ExecCase s i t) :
    t.emitted = s.emitted ∨ (s.pktValid = true ∧ t.emitted = s.emitted ++ s.pkt.toList) := by
  obtain ⟨-, -, htaken, -⟩ := h.host_side
  obtain htxq | ⟨hv, htxq, -⟩ := h.txq
  · exact .inl (congrArg₂ (· ++ ·) htaken htxq)
  · exact .inr ⟨hv, emitted_append htaken htxq⟩

/-- Settles O45: of the cases of a step, SEND with a framed packet appends to TXQ, and a drain moves bytes from one list
to the other. -/
theorem onlySendExtendsTheOutput : Obligations.OnlySendExtendsTheOutput := by
  intro s t h
  cases step_next_case h with
  | idle _ ht => exact .inl (by rw [ht])
  | heldInReset w rest _ _ ht => exact .inl (by rw [ht]; rfl)
  | word w rest hi hl hw =>
    cases hw with
    | undefined e _ ht => exact .inl (by rw [ht]; rfl)
    | defined i hd hc =>
      obtain ⟨-, -, htaken, -⟩ := hc.host_side
      obtain htxq | ⟨hv, htxq, x, rfl⟩ := hc.txq
      · exact .inl (by rw [htaken, htxq]; rfl)
      · exact .inr ⟨hv, hl, htaken, htxq, w, rest, x, hi, hd⟩
  | driveReset b rest _ ht => exact .inl (ht ▸ driveReset_emitted _ b)
  | sample rest _ ht => exact .inl (by rw [ht]; rfl)
  | drain n rest _ ht => exact .inl (ht ▸ drain_emitted _ n)

theorem step_emitted {s t : State} (h : step s = .next t) :
    t.emitted = s.emitted ∨ (s.pktValid = true ∧ t.emitted = s.emitted ++ s.pkt.toList) := by
  obtain hkept | ⟨hv, -, htaken, htxq, -⟩ := onlySendExtendsTheOutput s t h
  · exact .inl hkept
  · exact .inr ⟨hv, emitted_append htaken htxq⟩

/-! ### The invariants (10_state.md R35) -/

theorem packetOk_framePacket {n : Byte} (hn : 1 ≤ n.toNat) (p : Vector Byte 128) : PacketOk (framePacket n p) := by
  have hseq : (framePacket n p)[1] = n := framePacket_header n p 1 (by decide)
  have hcomp : (framePacket n p)[2] = comp8 n := framePacket_header n p 2 (by decide)
  have hhigh : (framePacket n p)[131] = hi8 (crcOf p.toList) := framePacket_checksum n p 0 (by decide)
  have hlow : (framePacket n p)[132] = lo8 (crcOf p.toList) := framePacket_checksum n p 1 (by decide)
  refine ⟨framePacket_header n p 0 (by decide), ?_, ?_, ?_⟩
  · rw [hcomp, hseq, comp8_toNat]
  · rwa [hseq]
  · rw [hhigh, hlow, framePacket_payload]
    exact pair_hi8_lo8 _

theorem ExecCase.inv {s t : State} {i : Instr} (h : ExecCase s i t) (hs : s.Inv) : t.Inv := by
  obtain ⟨hseq, hfill, hpkt, hemitted⟩ := hs
  refine ⟨?_, ?_, ?_, ?_⟩
  · obtain ht | ht := h.seq
    · rwa [ht]
    · exact ht
  · obtain ht | ht | ⟨hne, ht, -⟩ := h.fill
    · rwa [ht]
    · rw [ht]; decide
    · bv_omega
  · intro hv
    obtain ⟨hp, hpv⟩ | ⟨x, -, -, hp⟩ | ⟨x, -, hpv⟩ := h.packet
    · rw [hp]
      exact hpkt (hpv ▸ hv)
    · rw [hp]
      exact packetOk_framePacket hseq _
    · cases hpv.symm.trans hv
  · obtain ht | ⟨-, ht⟩ := h.emitted
    · rwa [ht]
    · rw [ht, List.length_append, Vector.length_toList]
      exact hemitted.add (Nat.dvd_refl 133)

theorem driveReset_inv {s : State} (b : Bool) (hs : s.Inv) : (s.driveReset b).Inv := by
  obtain ⟨-, -, h⟩ | ⟨-, h⟩ := driveReset_cases s b
  · rwa [h]
  · obtain ⟨-, -, -, hemitted⟩ := hs
    rw [h]
    exact ⟨Nat.le_refl 1, Nat.zero_le 128, fun hv => absurd hv Bool.false_ne_true, hemitted⟩

theorem drain_inv {s : State} (n : Nat) (hs : s.Inv) : (s.drain n).Inv := by
  obtain ⟨hseq, hfill, hpkt, hemitted⟩ := hs
  exact ⟨hseq, hfill, hpkt, (drain_emitted s n).symm ▸ hemitted⟩

/-- Settles O43: every operation of a step keeps the invariants. -/
theorem everyStepKeepsTheInvariants : Obligations.EveryStepKeepsTheInvariants := fun _ _ hs h =>
  step_preserves (P := State.Inv) (fun _ _ hs => hs) (fun _ _ _ hs hc => hc.inv hs) (fun _ hs => hs)
    (fun _ b hs => driveReset_inv b hs) (fun _ hs => hs) (fun _ n hs => drain_inv n hs) hs h

/-- Settles O44: a step emits nothing or PKT whole, which the invariants say is well formed. -/
theorem emittedBytesAreWholeWellFormedPackets : Obligations.EmittedBytesAreWholeWellFormedPackets := by
  rintro s t ⟨-, -, hpkt, -⟩ ⟨packets, hok, hstream⟩ h
  obtain ht | ⟨hv, ht⟩ := step_emitted h
  · exact ⟨packets, hok, ht.trans hstream⟩
  · refine ⟨packets ++ [s.pkt], ?_, ?_⟩
    · exact List.forall_mem_append.mpr ⟨hok, List.forall_mem_singleton.mpr (hpkt hv)⟩
    · rw [ht, hstream, List.flatMap_append, List.flatMap_singleton]

/-! ### The framed packet between BUILDs (70_reset_and_hazards.md section 3) -/

theorem ExecCase.packet_kept {s t : State} {i : Instr} (h : ExecCase s i t)
    (hop : i.opcode ≠ 0x30 ∧ i.opcode ≠ 0x5F) : t.pkt = s.pkt ∧ t.pktValid = s.pktValid := by
  obtain ⟨hbuild, hsrst⟩ := hop
  obtain hkept | ⟨x, rfl, -⟩ | ⟨x, rfl, -⟩ := h.packet
  · exact hkept
  · exact absurd rfl hbuild
  · exact absurd rfl hsrst

/-- Settles O34, by induction on the list of commands. -/
theorem framedPacketSurvivesOtherCommands : Obligations.FramedPacketSurvivesOtherCommands := by
  intro cmds
  induction cmds with
  | nil =>
    intro s t _ h
    obtain rfl := Host.Outcome.next.inj h
    exact ⟨rfl, rfl⟩
  | cons i is ih =>
    intro s t hops h
    obtain ⟨hop, hops⟩ := List.forall_mem_cons.mp hops
    obtain ⟨u, hu⟩ := exists_execCase s i
    rw [execAll_cons hu.exec_eq] at h
    obtain ⟨hpkt, hvalid⟩ := hu.packet_kept hop
    obtain ⟨hpkt', hvalid'⟩ := ih u t hops h
    exact ⟨hpkt'.trans hpkt, hvalid'.trans hvalid⟩

/-! ### Words on the port, undefined ones included -/

/-- A released step on a word leaves what the word can do, and the words behind it on the port. -/
theorem step_word {s : State} {w : Word} {rest : List HostAction} (hi : s.inputs = .command w :: rest)
    (hl : s.resetLine = false) :
    ∃ t, step s = .next t ∧ WordCase (s.setInputs rest) w t ∧ t.inputs = rest ∧ t.resetLine = false := by
  obtain ⟨t, ht⟩ := execWord_completes w (s.setInputs rest)
  have hw := execWord_next_case ht
  obtain ⟨hinputs, hline, -, -⟩ := hw.host_side
  exact ⟨t, (step_eq_execWord hi hl).trans ht, hw, hinputs, hline.trans hl⟩

/-- Only PAY_PUT makes an empty payload count bytes. -/
theorem WordCase.fill_zero {s t : State} {w : Word} (h : WordCase s w t) (hw : w.extractLsb' 8 8 ≠ 0x11)
    (hs : s.fill = 0) : t.fill = 0 := by
  cases h with
  | undefined e _ ht => rw [ht]; exact hs
  | defined i hd hc =>
    obtain hkept | hzero | ⟨-, -, d, rfl⟩ := hc.fill
    · exact hkept.trans hs
    · exact hzero
    · exact absurd (opcode_of_decode hd) hw

theorem run_words_fill_zero {ws : List Word} {s : State} {rest : List HostAction}
    (hws : ∀ w ∈ ws, w.extractLsb' 8 8 ≠ 0x11) (hi : s.inputs = ws.map HostAction.command ++ rest)
    (hl : s.resetLine = false) (hs : s.fill = 0) :
    ∃ t : State, Host.Core.run Sys2Proof.core ws.length s = .next t ∧ t.inputs = rest ∧ t.resetLine = false ∧
      t.fill = 0 := by
  induction ws generalizing s with
  | nil => exact ⟨s, rfl, hi, hl, hs⟩
  | cons w ws ih =>
    obtain ⟨hw, hws⟩ := List.forall_mem_cons.mp hws
    obtain ⟨u, hstep, hcase, hinputs, hline⟩ := step_word hi hl
    rw [List.length_cons, run_succ_of_step hstep]
    exact ih hws hinputs hline (hcase.fill_zero hw hs)

/-- A step on BUILD's word. -/
theorem step_build {s : State} {x : Byte} {rest : List HostAction}
    (hi : s.inputs = .command (encode (.build x)) :: rest) (hl : s.resetLine = false) :
    step s = .next ((s.setInputs rest).loadPacket s.payload) :=
  (step_eq_execWord hi hl).trans (execWord_encode (.build x) _)

theorem crcOf_filler : crcOf (List.replicate 128 Config.pad) = 0xF8B0 := by
  decide +kernel

/-- Settles O35: after the first BUILD no byte counts, and without PAY_PUT none does at the second. -/
theorem secondBuildFramesFillerBytes : Obligations.SecondBuildFramesFillerBytes := by
  intro x y ws s rest hws hl hi
  rw [List.cons_append, List.map_cons, List.map_append, List.cons_append, List.append_assoc] at hi
  obtain ⟨u, hrun, hinputs, hline, hfill⟩ := run_words_fill_zero (ws := ws)
    (s := (s.setInputs (ws.map HostAction.command ++ .command (encode (.build y)) :: rest)).loadPacket s.payload)
    hws rfl hl rfl
  have hfirst : Host.Core.run Sys2Proof.core (ws.length + 1) s = .next u :=
    (run_succ_of_step (step_build hi hl) _).trans hrun
  have hpayload : u.payload.toList = List.replicate 128 Config.pad := by
    rw [payload_toList (by rw [hfill]; decide), loaded_of_fill_zero hfill]
    rfl
  refine ⟨u, (u.setInputs rest).loadPacket u.payload, hfirst, ?_, ?_, ?_, rfl⟩
  · exact (run_add 1 hfirst).trans (run_succ_of_step (step_build hinputs hline) 0)
  · rw [State.loadPacket_pkt, framePacket_toList, hpayload, crcOf_filler]
    rfl
  · rw [State.loadPacket_crc, hpayload, crcOf_filler]

end Sys2Proof.Machine

namespace Sys2Proof.Machine

/-! ### States that agree on what can be observed (10_state.md R25, R26)

One lemma per operation: it takes two such states to two such states. -/

namespace SameObservable

variable {s s' : State} (h : SameObservable s s')
include h

theorem stat_eq : s.stat = s'.stat := by
  simp only [State.stat, State.payEmpty, State.payFull, h.errs, h.fill, h.pktValid]

/-- BUILD frames the bytes before FILL only. -/
theorem payload_eq : s.payload = s'.payload := by
  apply Vector.ext
  intro i hi
  rw [payload_getElem, payload_getElem, ← h.fill]
  split
  · exact h.pay i hi ‹_›
  · rfl

theorem setInputs (rest : List HostAction) : SameObservable (s.setInputs rest) (s'.setInputs rest) :=
  { h with inputs := rfl }

theorem raise (e : ErrorKind) : SameObservable (s.raise e) (s'.raise e) :=
  { h with errs := congrArg (· ||| e.flag) h.errs }

theorem clearErrors (m : BitVec 5) : SameObservable (s.clearErrors m) (s'.clearErrors m) :=
  { h with errs := congrArg (· &&& ~~~m) h.errs }

theorem setCrc {v v' : Word} (hv : v = v') : SameObservable (s.setCrc v) (s'.setCrc v') :=
  { h with crc := hv }

theorem setSeq {n n' : Byte} (hn : n = n') : SameObservable (s.setSeq n) (s'.setSeq n') :=
  { h with seq := hn }

theorem setRdata {v v' : Word} (hv : v = v') : SameObservable (s.setRdata v) (s'.setRdata v') :=
  { h with rdata := hv }

theorem clearPay : SameObservable s.clearPay s'.clearPay :=
  { h with fill := rfl, pay := fun _ _ hlt => absurd hlt (Nat.not_lt_zero _) }

theorem putPay (d : Byte) : SameObservable (s.putPay d) (s'.putPay d) where
  __ := h
  fill := congrArg (· + 1) h.fill
  pay i hi hlt := by
    rw [putPay_pay_getElem, putPay_pay_getElem, ← h.fill]
    split
    · rfl
    · refine h.pay i hi ?_
      rw [State.putPay_fill] at hlt
      bv_omega

theorem loadPacket : SameObservable (s.loadPacket s.payload) (s'.loadPacket s'.payload) where
  __ := h.clearPay
  crc := by simp only [State.loadPacket_crc, h.payload_eq]
  pktValid := rfl
  pkt _ := by simp only [State.loadPacket_pkt, h.seq, h.payload_eq]
  pay _ _ hlt := absurd hlt (Nat.not_lt_zero _)

theorem emit (hv : s.pktValid = true) : SameObservable (s.emit s.pkt.toList) (s'.emit s'.pkt.toList) :=
  { h with txq := by simp only [State.emit_txq, h.txq, h.pkt hv] }

/-- After a reset no byte of PAY counts and no packet is framed. -/
theorem resetRegisters : SameObservable s.resetRegisters s'.resetRegisters where
  __ := h
  crc := rfl
  seq := rfl
  fill := rfl
  pay _ _ hlt := absurd hlt (Nat.not_lt_zero _)
  pktValid := rfl
  pkt hv := absurd hv Bool.false_ne_true
  errs := rfl
  rdata := rfl

theorem driveReset (b : Bool) : SameObservable (s.driveReset b) (s'.driveReset b) := by
  simp only [State.driveReset, ← h.resetLine]
  split
  · exact { h.resetRegisters with resetLine := rfl }
  · exact h

theorem sample : SameObservable s.sample s'.sample :=
  { h with sampled := by simp only [State.sample_sampled, h.sampled, h.rdata] }

theorem drain (n : Nat) : SameObservable (s.drain n) (s'.drain n) where
  __ := h
  txq := congrArg (List.drop n) h.txq
  taken := by simp only [State.drain_taken, h.taken, h.txq]

/-- Both states take the same case of a command. -/
theorem execCase {i : Instr} {t : State} (hc : ExecCase s i t) : ∃ t', ExecCase s' i t' ∧ SameObservable t t' := by
  cases hc with
  | nop x => exact ⟨_, .nop x, h⟩
  | crcClr x => exact ⟨_, .crcClr x, h.setCrc rfl⟩
  | crcByte d => exact ⟨_, .crcByte d, h.setCrc (by rw [h.crc])⟩
  | crcLdh d => exact ⟨_, .crcLdh d, h.setCrc (by rw [h.crc])⟩
  | crcLdl d => exact ⟨_, .crcLdl d, h.setCrc (by rw [h.crc])⟩
  | payClr x => exact ⟨_, .payClr x, h.clearPay⟩
  | payPutFull d hf => exact ⟨_, .payPutFull d (h.fill ▸ hf), h.raise .ovf⟩
  | payPut d hf => exact ⟨_, .payPut d (h.fill ▸ hf), h.putPay d⟩
  | seqSetZero n hn => exact ⟨_, .seqSetZero n hn, h.raise .seq0⟩
  | seqSet n hn => exact ⟨_, .seqSet n hn, h.setSeq rfl⟩
  | seqAdv x => exact ⟨_, .seqAdv x, h.setSeq (by rw [h.seq])⟩
  | build x => exact ⟨_, .build x, h.loadPacket⟩
  | send x hv => exact ⟨_, .send x (h.pktValid ▸ hv), h.emit hv⟩
  | sendNoPacket x hv => exact ⟨_, .sendNoPacket x (h.pktValid ▸ hv), h.raise .nopkt⟩
  | rdCrc x => exact ⟨_, .rdCrc x, h.setRdata h.crc⟩
  | rdStat x => exact ⟨_, .rdStat x, h.setRdata h.stat_eq⟩
  | rdSeq x => exact ⟨_, .rdSeq x, h.setRdata (by rw [h.seq])⟩
  | rdFill x => exact ⟨_, .rdFill x, h.setRdata (by rw [h.fill])⟩
  | rdPkt k hk hv => exact ⟨_, .rdPkt k hk (h.pktValid ▸ hv), h.setRdata (by simp only [h.pkt hv])⟩
  | rdPktRange k hk hv => exact ⟨_, .rdPktRange k hk (h.pktValid ▸ hv), (h.raise .range).setRdata rfl⟩
  | rdPktNoPacket k hv => exact ⟨_, .rdPktNoPacket k (h.pktValid ▸ hv), (h.raise .nopkt).setRdata rfl⟩
  | errClr m => exact ⟨_, .errClr m, h.clearErrors _⟩
  | srst x => exact ⟨_, .srst x, h.resetRegisters⟩

theorem wordCase {w : Word} {t : State} (hw : WordCase s w t) :
    ∃ t', execWord w s' = .next t' ∧ SameObservable t t' := by
  cases hw with
  | defined i hd hc =>
    obtain ⟨t', hc', ht⟩ := h.execCase hc
    exact ⟨t', (execWord_of_decode_ok hd s').trans hc'.exec_eq, ht⟩
  | undefined e hd ht => exact ⟨_, execWord_of_decode_error hd s', ht ▸ h.raise .ill⟩

end SameObservable

/-- Settles O52: the port and the reset input are observable, so both states take the same case of a step. -/
theorem unspecifiedBytesAreNeverObserved : Obligations.UnspecifiedBytesAreNeverObserved := by
  intro s s' t h hstep
  cases step_next_case hstep with
  | idle hi ht => exact ⟨s', step_of_no_inputs (h.inputs ▸ hi), ht ▸ h⟩
  | heldInReset w rest hi hl ht =>
    have hheld := takeAction_command_of_reset (s := s'.setInputs rest) (h.resetLine ▸ hl) w
    exact ⟨_, (step_eq_takeAction (h.inputs ▸ hi)).trans hheld, ht ▸ h.setInputs rest⟩
  | word w rest hi hl hw =>
    obtain ⟨t', hexec, ht⟩ := (h.setInputs rest).wordCase hw
    exact ⟨t', (step_eq_execWord (h.inputs ▸ hi) (h.resetLine ▸ hl)).trans hexec, ht⟩
  | driveReset b rest hi ht =>
    exact ⟨_, step_eq_takeAction (h.inputs ▸ hi), ht ▸ (h.setInputs rest).driveReset b⟩
  | sample rest hi ht => exact ⟨_, step_eq_takeAction (h.inputs ▸ hi), ht ▸ (h.setInputs rest).sample⟩
  | drain n rest hi ht => exact ⟨_, step_eq_takeAction (h.inputs ▸ hi), ht ▸ (h.setInputs rest).drain n⟩

end Sys2Proof.Machine

namespace Sys2Proof.Machine

/-! ### The observation of a run of words (70_reset_and_hazards.md R241) -/

theorem execWord_setInputs {w : Word} {s t : State} (h : execWord w s = .next t) (rest : List HostAction) :
    execWord w (s.setInputs rest) = .next (t.setInputs rest) := by
  cases execWord_next_case h with
  | defined i hd hc => exact (execWord_of_decode_ok hd _).trans (exec_setInputs hc.exec_eq rest)
  | undefined e hd ht => exact ht ▸ execWord_of_decode_error hd (s.setInputs rest)

theorem observe_cons {w : Word} {ws : List Word} {s t : State} {o : Observation} (hw : execWord w s = .next t)
    (ho : observe ws t = .next o) :
    observe (w :: ws) s = .next { o with reads := if isReadWord w then t.rdata :: o.reads else o.reads } := by
  simp only [observe, hw, ho]

/-- The state with the words alone on the port. -/
def State.withWords (s : State) (ws : List Word) : State := s.setInputs (ws.map HostAction.command)

/-- The observation is that of the machine's steps on the words (logs 1 and 20). -/
structure ObservesRun (ws : List Word) (s : State) (o : Observation) : Prop where
  run : Host.Core.run Sys2Proof.core ws.length (s.withWords ws) = .next o.final
  bytes : o.bytes = o.final.emitted
  length : o.reads.length = (ws.filter isReadWord).length
  reads : ∀ xs w ys, ws = xs ++ w :: ys → isReadWord w = true →
    ∃ p, Host.Core.run Sys2Proof.core (xs.length + 1) (s.withWords ws) = .next p ∧
      o.reads[(xs.filter isReadWord).length]? = some p.rdata

theorem observesRun_nil (s : State) :
    ObservesRun [] s { final := s.withWords [], reads := [], bytes := s.emitted } where
  run := rfl
  bytes := rfl
  length := rfl
  reads xs w ys h _ := by simp at h

theorem observesRun_cons {w : Word} {ws : List Word} {s t : State} {o : Observation}
    (hstep : step (s.withWords (w :: ws)) = .next (t.withWords ws)) (ho : ObservesRun ws t o) :
    ObservesRun (w :: ws) s { o with reads := if isReadWord w then t.rdata :: o.reads else o.reads } where
  run := (run_succ_of_step hstep _).trans ho.run
  bytes := ho.bytes
  length := by
    cases hw : isReadWord w <;> simp [hw, ho.length]
  reads := by
    intro xs v ys hws hv
    cases xs with
    | nil =>
      obtain ⟨rfl, rfl⟩ := List.cons.inj hws
      exact ⟨_, run_succ_of_step hstep 0, by simp [hv]; rfl⟩
    | cons x xs =>
      obtain ⟨rfl, htail⟩ := List.cons.inj hws
      obtain ⟨p, hrun, hread⟩ := ho.reads xs v ys htail hv
      refine ⟨p, (run_succ_of_step hstep _).trans hrun, ?_⟩
      cases hw : isReadWord w <;> simpa [hw] using hread

theorem exists_observesRun (ws : List Word) (s : State) (hl : s.resetLine = false) :
    ∃ o, observe ws (s.setInputs []) = .next o ∧ ObservesRun ws s o := by
  induction ws generalizing s with
  | nil => exact ⟨_, rfl, observesRun_nil s⟩
  | cons w ws ih =>
    obtain ⟨t, hexec⟩ := execWord_completes w (s.setInputs [])
    obtain ⟨hinputs, hline, -, -⟩ := (execWord_next_case hexec).host_side
    obtain ⟨o, hobserve, ho⟩ := ih t (hline.trans hl)
    have ht : t.setInputs [] = t := (congrArg t.setInputs hinputs).symm
    have hstep : step (s.withWords (w :: ws)) = .next (t.withWords ws) :=
      (step_eq_execWord (s := s.withWords (w :: ws)) rfl hl).trans
        (execWord_setInputs hexec (ws.map HostAction.command))
    exact ⟨_, observe_cons hexec (ht ▸ hobserve), observesRun_cons hstep ho⟩

/-- Settles O13, by induction on the list of words: the execution of a word does not see the words behind it. -/
theorem observationIsThatOfTheSteps : Obligations.ObservationIsThatOfTheSteps := by
  intro ws s hl
  obtain ⟨o, hobserve, ⟨hrun, hbytes, hlength, hreads⟩⟩ := exists_observesRun ws s hl
  exact ⟨o, hobserve, hrun, hbytes, hlength, hreads⟩

end Sys2Proof.Machine
